-- ==== Sys2Proof/Word.lean ====
section
/-! DEFINITION. The words of the core (spec/00_scope.md R5, R6): 32-bit registers, instructions and addresses, bytes,
halfwords, and the 5-bit register numbers of the instruction fields (spec/30_encoding.md R91). -/

namespace Sys2Proof

/-- A 32-bit value: register, instruction word, address (R5). Arithmetic on it is modulo 2^32 (R6). -/
abbrev Word := BitVec 32

/-- One byte, the unit of addressing (R60). -/
abbrev Byte := BitVec 8

/-- A 16-bit value: a halfword on the bus, an `imm16` field. -/
abbrev Half := BitVec 16

/-- A register number: the 5-bit fields `rs`, `rt`, `rd` (R20, R91). -/
abbrev RegIdx := BitVec 5

end Sys2Proof
end

