-- ==== Sys2Proof/Syntax.lean ====
section
/-! DEFINITION. The instructions: one constructor for each row of spec/opcode_table.json, in the table's order, its operands
in the order of the assembler syntax (spec/30_encoding.md R105). A field the instruction's rule does not read (R101) is no
operand: two words that differ only in ignored bits are one instruction. -/

namespace Sys2Proof

/-- The 68 instructions of R100 and the catch-all `UNIMPLEMENTED`. -/
inductive Instr where
  /-- `SLL rd, rt, sa` (R171). -/
  | sll (rd : RegIdx) (rt : RegIdx) (sa : BitVec 5)
  /-- `SRL rd, rt, sa` (R172). -/
  | srl (rd : RegIdx) (rt : RegIdx) (sa : BitVec 5)
  /-- `SRA rd, rt, sa` (R173). -/
  | sra (rd : RegIdx) (rt : RegIdx) (sa : BitVec 5)
  /-- `SLLV rd, rt, rs` (R174). -/
  | sllv (rd : RegIdx) (rt : RegIdx) (rs : RegIdx)
  /-- `SRLV rd, rt, rs` (R175). -/
  | srlv (rd : RegIdx) (rt : RegIdx) (rs : RegIdx)
  /-- `SRAV rd, rt, rs` (R176). -/
  | srav (rd : RegIdx) (rt : RegIdx) (rs : RegIdx)
  /-- `JR rs` (R207). -/
  | jr (rs : RegIdx)
  /-- `JALR rd, rs` (R208). -/
  | jalr (rd : RegIdx) (rs : RegIdx)
  /-- `SYSCALL code` (R265). -/
  | syscall (code : BitVec 20)
  /-- `BREAK code` (R266). -/
  | brk (code : BitVec 20)
  /-- `MFHI rd` (R187). -/
  | mfhi (rd : RegIdx)
  /-- `MTHI rs` (R188). -/
  | mthi (rs : RegIdx)
  /-- `MFLO rd` (R189). -/
  | mflo (rd : RegIdx)
  /-- `MTLO rs` (R190). -/
  | mtlo (rs : RegIdx)
  /-- `MULT rs, rt` (R181). -/
  | mult (rs : RegIdx) (rt : RegIdx)
  /-- `MULTU rs, rt` (R182). -/
  | multu (rs : RegIdx) (rt : RegIdx)
  /-- `DIV rs, rt` (R183). -/
  | div (rs : RegIdx) (rt : RegIdx)
  /-- `DIVU rs, rt` (R186). -/
  | divu (rs : RegIdx) (rt : RegIdx)
  /-- `ADD rd, rs, rt` (R141). -/
  | add (rd : RegIdx) (rs : RegIdx) (rt : RegIdx)
  /-- `ADDU rd, rs, rt` (R142). -/
  | addu (rd : RegIdx) (rs : RegIdx) (rt : RegIdx)
  /-- `SUB rd, rs, rt` (R143). -/
  | sub (rd : RegIdx) (rs : RegIdx) (rt : RegIdx)
  /-- `SUBU rd, rs, rt` (R144). -/
  | subu (rd : RegIdx) (rs : RegIdx) (rt : RegIdx)
  /-- `AND rd, rs, rt` (R145). -/
  | and (rd : RegIdx) (rs : RegIdx) (rt : RegIdx)
  /-- `OR rd, rs, rt` (R146). -/
  | or (rd : RegIdx) (rs : RegIdx) (rt : RegIdx)
  /-- `XOR rd, rs, rt` (R147). -/
  | xor (rd : RegIdx) (rs : RegIdx) (rt : RegIdx)
  /-- `NOR rd, rs, rt` (R148). -/
  | nor (rd : RegIdx) (rs : RegIdx) (rt : RegIdx)
  /-- `SLT rd, rs, rt` (R149). -/
  | slt (rd : RegIdx) (rs : RegIdx) (rt : RegIdx)
  /-- `SLTU rd, rs, rt` (R150). -/
  | sltu (rd : RegIdx) (rs : RegIdx) (rt : RegIdx)
  /-- `BLTZAL rs, offset` (R215). -/
  | bltzal (rs : RegIdx) (offset : Half)
  /-- `BGEZAL rs, offset` (R216). -/
  | bgezal (rs : RegIdx) (offset : Half)
  /-- `BLTZ rs, offset` (R213). -/
  | bltz (rs : RegIdx) (offset : Half)
  /-- `BGEZ rs, offset` (R214). -/
  | bgez (rs : RegIdx) (offset : Half)
  /-- `J target` (R205). -/
  | j (target : BitVec 26)
  /-- `JAL target` (R206). -/
  | jal (target : BitVec 26)
  /-- `BEQ rs, rt, offset` (R209). -/
  | beq (rs : RegIdx) (rt : RegIdx) (offset : Half)
  /-- `BNE rs, rt, offset` (R210). -/
  | bne (rs : RegIdx) (rt : RegIdx) (offset : Half)
  /-- `BLEZ rs, offset` (R211). -/
  | blez (rs : RegIdx) (offset : Half)
  /-- `BGTZ rs, offset` (R212). -/
  | bgtz (rs : RegIdx) (offset : Half)
  /-- `ADDI rt, rs, imm` (R151). -/
  | addi (rt : RegIdx) (rs : RegIdx) (imm : Half)
  /-- `ADDIU rt, rs, imm` (R152). -/
  | addiu (rt : RegIdx) (rs : RegIdx) (imm : Half)
  /-- `SLTI rt, rs, imm` (R153). -/
  | slti (rt : RegIdx) (rs : RegIdx) (imm : Half)
  /-- `SLTIU rt, rs, imm` (R154). -/
  | sltiu (rt : RegIdx) (rs : RegIdx) (imm : Half)
  /-- `ANDI rt, rs, imm` (R155). -/
  | andi (rt : RegIdx) (rs : RegIdx) (imm : Half)
  /-- `ORI rt, rs, imm` (R156). -/
  | ori (rt : RegIdx) (rs : RegIdx) (imm : Half)
  /-- `XORI rt, rs, imm` (R157). -/
  | xori (rt : RegIdx) (rs : RegIdx) (imm : Half)
  /-- `LUI rt, imm` (R158). -/
  | lui (rt : RegIdx) (imm : Half)
  /-- `MFC0 rt, rd` (R250). -/
  | mfc0 (rt : RegIdx) (rd : RegIdx)
  /-- `MTC0 rt, rd` (R252). -/
  | mtc0 (rt : RegIdx) (rd : RegIdx)
  /-- `RFE` (R256). -/
  | rfe
  /-- `MFC2 rt, rd` (R271). -/
  | mfc2 (rt : RegIdx) (rd : RegIdx)
  /-- `CFC2 rt, rd` (R272). -/
  | cfc2 (rt : RegIdx) (rd : RegIdx)
  /-- `MTC2 rt, rd` (R273). -/
  | mtc2 (rt : RegIdx) (rd : RegIdx)
  /-- `CTC2 rt, rd` (R274). -/
  | ctc2 (rt : RegIdx) (rd : RegIdx)
  /-- `COP2 command` (R275). -/
  | cop2 (command : BitVec 25)
  /-- `LB rt, offset(base)` (R224). -/
  | lb (rt : RegIdx) (offset : Half) (base : RegIdx)
  /-- `LH rt, offset(base)` (R226). -/
  | lh (rt : RegIdx) (offset : Half) (base : RegIdx)
  /-- `LWL rt, offset(base)` (R242). -/
  | lwl (rt : RegIdx) (offset : Half) (base : RegIdx)
  /-- `LW rt, offset(base)` (R228). -/
  | lw (rt : RegIdx) (offset : Half) (base : RegIdx)
  /-- `LBU rt, offset(base)` (R225). -/
  | lbu (rt : RegIdx) (offset : Half) (base : RegIdx)
  /-- `LHU rt, offset(base)` (R227). -/
  | lhu (rt : RegIdx) (offset : Half) (base : RegIdx)
  /-- `LWR rt, offset(base)` (R243). -/
  | lwr (rt : RegIdx) (offset : Half) (base : RegIdx)
  /-- `SB rt, offset(base)` (R229). -/
  | sb (rt : RegIdx) (offset : Half) (base : RegIdx)
  /-- `SH rt, offset(base)` (R230). -/
  | sh (rt : RegIdx) (offset : Half) (base : RegIdx)
  /-- `SWL rt, offset(base)` (R244). -/
  | swl (rt : RegIdx) (offset : Half) (base : RegIdx)
  /-- `SW rt, offset(base)` (R231). -/
  | sw (rt : RegIdx) (offset : Half) (base : RegIdx)
  /-- `SWR rt, offset(base)` (R245). -/
  | swr (rt : RegIdx) (offset : Half) (base : RegIdx)
  /-- `LWC2 rt, offset(base)` (R276). -/
  | lwc2 (rt : RegIdx) (offset : Half) (base : RegIdx)
  /-- `SWC2 rt, offset(base)` (R277). -/
  | swc2 (rt : RegIdx) (offset : Half) (base : RegIdx)
  /-- `UNIMPLEMENTED`, the catch-all: a word that R102 lists (R280). It keeps the word. -/
  | unimplemented (word : Word)
deriving DecidableEq, Repr

/-- The row of spec/opcode_table.json an instruction stands for. -/
def Instr.mnemonic : Instr → String
  | .sll .. => "SLL"
  | .srl .. => "SRL"
  | .sra .. => "SRA"
  | .sllv .. => "SLLV"
  | .srlv .. => "SRLV"
  | .srav .. => "SRAV"
  | .jr .. => "JR"
  | .jalr .. => "JALR"
  | .syscall .. => "SYSCALL"
  | .brk .. => "BREAK"
  | .mfhi .. => "MFHI"
  | .mthi .. => "MTHI"
  | .mflo .. => "MFLO"
  | .mtlo .. => "MTLO"
  | .mult .. => "MULT"
  | .multu .. => "MULTU"
  | .div .. => "DIV"
  | .divu .. => "DIVU"
  | .add .. => "ADD"
  | .addu .. => "ADDU"
  | .sub .. => "SUB"
  | .subu .. => "SUBU"
  | .and .. => "AND"
  | .or .. => "OR"
  | .xor .. => "XOR"
  | .nor .. => "NOR"
  | .slt .. => "SLT"
  | .sltu .. => "SLTU"
  | .bltzal .. => "BLTZAL"
  | .bgezal .. => "BGEZAL"
  | .bltz .. => "BLTZ"
  | .bgez .. => "BGEZ"
  | .j .. => "J"
  | .jal .. => "JAL"
  | .beq .. => "BEQ"
  | .bne .. => "BNE"
  | .blez .. => "BLEZ"
  | .bgtz .. => "BGTZ"
  | .addi .. => "ADDI"
  | .addiu .. => "ADDIU"
  | .slti .. => "SLTI"
  | .sltiu .. => "SLTIU"
  | .andi .. => "ANDI"
  | .ori .. => "ORI"
  | .xori .. => "XORI"
  | .lui .. => "LUI"
  | .mfc0 .. => "MFC0"
  | .mtc0 .. => "MTC0"
  | .rfe => "RFE"
  | .mfc2 .. => "MFC2"
  | .cfc2 .. => "CFC2"
  | .mtc2 .. => "MTC2"
  | .ctc2 .. => "CTC2"
  | .cop2 .. => "COP2"
  | .lb .. => "LB"
  | .lh .. => "LH"
  | .lwl .. => "LWL"
  | .lw .. => "LW"
  | .lbu .. => "LBU"
  | .lhu .. => "LHU"
  | .lwr .. => "LWR"
  | .sb .. => "SB"
  | .sh .. => "SH"
  | .swl .. => "SWL"
  | .sw .. => "SW"
  | .swr .. => "SWR"
  | .lwc2 .. => "LWC2"
  | .swc2 .. => "SWC2"
  | .unimplemented .. => "UNIMPLEMENTED"

end Sys2Proof
end

