-- ==== Sys2Proof/WellFormed.lean ====
section
/-! DEFINITION. Which instruction terms are well formed. Every operand has the width of its field, so the one thing to check
is the word of `UNIMPLEMENTED`: it must be a word that spec/30_encoding.md R102 lists. The list is written here from R102
itself; that the decoder agrees with it is a statement about the model, not a definition. -/

namespace Sys2Proof

/-- R102: the values of `op` = I[31:26] that are unimplemented whatever the other bits are. -/
def unimplementedOp (op : BitVec 6) : Bool :=
  op == 0x11 || (0x13 ≤ op && op ≤ 0x1F) || op == 0x27 || op == 0x2C || op == 0x2D || op == 0x2F || op == 0x30 ||
    op == 0x31 || (0x33 ≤ op && op ≤ 0x39) || (0x3B ≤ op && op ≤ 0x3F)

/-- R102: the values of `funct` = I[5:0] that are unimplemented under `op` = 0. -/
def unimplementedFunct (funct : BitVec 6) : Bool :=
  funct == 0x01 || funct == 0x05 || funct == 0x0A || funct == 0x0B || funct == 0x0E || funct == 0x0F ||
    (0x14 ≤ funct && funct ≤ 0x17) || (0x1C ≤ funct && funct ≤ 0x1F) || funct == 0x28 || funct == 0x29 ||
    (0x2C ≤ funct && funct ≤ 0x3F)

/-- R98, R102: the `rs`/`funct` pairs that are unimplemented under `op` = 0x10. -/
def unimplementedCop0 (rs : BitVec 5) (funct : BitVec 6) : Bool :=
  (0x01 ≤ rs && rs ≤ 0x03) || (0x05 ≤ rs && rs ≤ 0x0F) || 0x11 ≤ rs || (rs == 0x10 && funct != 0x10)

/-- R99, R102: the values of `rs` that are unimplemented under `op` = 0x12. -/
def unimplementedCop2 (rs : BitVec 5) : Bool :=
  rs == 0x01 || rs == 0x03 || rs == 0x05 || (0x07 ≤ rs && rs ≤ 0x0F)

/-- The words R102 lists. -/
def isUnimplemented (w : Word) : Bool :=
  let op := w.extractLsb' 26 6
  unimplementedOp op || (op == 0x00 && unimplementedFunct (w.extractLsb' 0 6)) ||
    (op == 0x10 && unimplementedCop0 (w.extractLsb' 21 5) (w.extractLsb' 0 6)) ||
    (op == 0x12 && unimplementedCop2 (w.extractLsb' 21 5))

/-- An instruction term that some word stands for. -/
def Instr.wellFormed : Instr → Bool
  | .sll ..
  | .srl ..
  | .sra ..
  | .sllv ..
  | .srlv ..
  | .srav ..
  | .jr ..
  | .jalr ..
  | .syscall ..
  | .brk ..
  | .mfhi ..
  | .mthi ..
  | .mflo ..
  | .mtlo ..
  | .mult ..
  | .multu ..
  | .div ..
  | .divu ..
  | .add ..
  | .addu ..
  | .sub ..
  | .subu ..
  | .and ..
  | .or ..
  | .xor ..
  | .nor ..
  | .slt ..
  | .sltu ..
  | .bltzal ..
  | .bgezal ..
  | .bltz ..
  | .bgez ..
  | .j ..
  | .jal ..
  | .beq ..
  | .bne ..
  | .blez ..
  | .bgtz ..
  | .addi ..
  | .addiu ..
  | .slti ..
  | .sltiu ..
  | .andi ..
  | .ori ..
  | .xori ..
  | .lui ..
  | .mfc0 ..
  | .mtc0 ..
  | .rfe
  | .mfc2 ..
  | .cfc2 ..
  | .mtc2 ..
  | .ctc2 ..
  | .cop2 ..
  | .lb ..
  | .lh ..
  | .lwl ..
  | .lw ..
  | .lbu ..
  | .lhu ..
  | .lwr ..
  | .sb ..
  | .sh ..
  | .swl ..
  | .sw ..
  | .swr ..
  | .lwc2 ..
  | .swc2 .. => true
  | .unimplemented word => isUnimplemented word

end Sys2Proof
end

