-- ==== Sys2Proof/Decode.lean ====
section
/-! DEFINITION. The decoder: fields, three-level dispatch, and the bytes of a word (spec/30_encoding.md R90 to R102); and
after it the encoder, from the same maps (R92, R95 to R99, R107). Decoding a word always gives an instruction (R90: "every
32-bit input decodes"); decoding bytes refuses, by name, only a list too short to hold a word. -/

namespace Sys2Proof

/-! ### Fields (R91) -/

/-- `op` = I[31:26], the primary opcode. -/
def opOf (w : Word) : BitVec 6 := w.extractLsb' 26 6
/-- `rs` = I[25:21]. -/
def rsOf (w : Word) : RegIdx := w.extractLsb' 21 5
/-- `rt` = I[20:16]. -/
def rtOf (w : Word) : RegIdx := w.extractLsb' 16 5
/-- `rd` = I[15:11]. -/
def rdOf (w : Word) : RegIdx := w.extractLsb' 11 5
/-- `sa` = I[10:6]. -/
def saOf (w : Word) : BitVec 5 := w.extractLsb' 6 5
/-- `funct` = I[5:0]. -/
def functOf (w : Word) : BitVec 6 := w.extractLsb' 0 6
/-- `imm16` = I[15:0]. -/
def immOf (w : Word) : Half := w.extractLsb' 0 16
/-- `imm20` = I[25:6], the code field of `SYSCALL` and `BREAK`. -/
def codeOf (w : Word) : BitVec 20 := w.extractLsb' 6 20
/-- `target26` = I[25:0]. -/
def targetOf (w : Word) : BitVec 26 := w.extractLsb' 0 26
/-- The 25-bit coprocessor command, I[24:0]. -/
def commandOf (w : Word) : BitVec 25 := w.extractLsb' 0 25

/-! ### The three levels (R94) -/

/-- `op` = 0, by `funct` (R96). -/
def decodeSpecial (w : Word) : Instr :=
  match functOf w with
  | 0x00#6 => .sll (rdOf w) (rtOf w) (saOf w)
  | 0x02#6 => .srl (rdOf w) (rtOf w) (saOf w)
  | 0x03#6 => .sra (rdOf w) (rtOf w) (saOf w)
  | 0x04#6 => .sllv (rdOf w) (rtOf w) (rsOf w)
  | 0x06#6 => .srlv (rdOf w) (rtOf w) (rsOf w)
  | 0x07#6 => .srav (rdOf w) (rtOf w) (rsOf w)
  | 0x08#6 => .jr (rsOf w)
  | 0x09#6 => .jalr (rdOf w) (rsOf w)
  | 0x0C#6 => .syscall (codeOf w)
  | 0x0D#6 => .brk (codeOf w)
  | 0x10#6 => .mfhi (rdOf w)
  | 0x11#6 => .mthi (rsOf w)
  | 0x12#6 => .mflo (rdOf w)
  | 0x13#6 => .mtlo (rsOf w)
  | 0x18#6 => .mult (rsOf w) (rtOf w)
  | 0x19#6 => .multu (rsOf w) (rtOf w)
  | 0x1A#6 => .div (rsOf w) (rtOf w)
  | 0x1B#6 => .divu (rsOf w) (rtOf w)
  | 0x20#6 => .add (rdOf w) (rsOf w) (rtOf w)
  | 0x21#6 => .addu (rdOf w) (rsOf w) (rtOf w)
  | 0x22#6 => .sub (rdOf w) (rsOf w) (rtOf w)
  | 0x23#6 => .subu (rdOf w) (rsOf w) (rtOf w)
  | 0x24#6 => .and (rdOf w) (rsOf w) (rtOf w)
  | 0x25#6 => .or (rdOf w) (rsOf w) (rtOf w)
  | 0x26#6 => .xor (rdOf w) (rsOf w) (rtOf w)
  | 0x27#6 => .nor (rdOf w) (rsOf w) (rtOf w)
  | 0x2A#6 => .slt (rdOf w) (rsOf w) (rtOf w)
  | 0x2B#6 => .sltu (rdOf w) (rsOf w) (rtOf w)
  | _ => .unimplemented w

/-- `op` = 1 (R97): the link forms are `rt` = 0b10000 and 0b10001; every other `rt` goes by its low bit. -/
def decodeBcondZ (w : Word) : Instr :=
  if rtOf w = 0b10000#5 then .bltzal (rsOf w) (immOf w)
  else if rtOf w = 0b10001#5 then .bgezal (rsOf w) (immOf w)
  else if (rtOf w).getLsbD 0 then .bgez (rsOf w) (immOf w)
  else .bltz (rsOf w) (immOf w)

/-- `op` = 0x10, by `rs` and then `funct` (R98). -/
def decodeCop0 (w : Word) : Instr :=
  match rsOf w with
  | 0x00#5 => .mfc0 (rtOf w) (rdOf w)
  | 0x04#5 => .mtc0 (rtOf w) (rdOf w)
  | 0x10#5 => if functOf w = 0x10#6 then .rfe else .unimplemented w
  | _ => .unimplemented w

/-- `op` = 0x12, by `rs` (R99): I[25] set is a command. -/
def decodeCop2 (w : Word) : Instr :=
  if (rsOf w).getLsbD 4 then .cop2 (commandOf w)
  else match rsOf w with
    | 0x00#5 => .mfc2 (rtOf w) (rdOf w)
    | 0x02#5 => .cfc2 (rtOf w) (rdOf w)
    | 0x04#5 => .mtc2 (rtOf w) (rdOf w)
    | 0x06#5 => .ctc2 (rtOf w) (rdOf w)
    | _ => .unimplemented w

/-- The instruction a word stands for, by `op` (R95). A word no row matches is `UNIMPLEMENTED` (R102). -/
def decodeWord (w : Word) : Instr :=
  match opOf w with
  | 0x00#6 => decodeSpecial w
  | 0x01#6 => decodeBcondZ w
  | 0x02#6 => .j (targetOf w)
  | 0x03#6 => .jal (targetOf w)
  | 0x04#6 => .beq (rsOf w) (rtOf w) (immOf w)
  | 0x05#6 => .bne (rsOf w) (rtOf w) (immOf w)
  | 0x06#6 => .blez (rsOf w) (immOf w)
  | 0x07#6 => .bgtz (rsOf w) (immOf w)
  | 0x08#6 => .addi (rtOf w) (rsOf w) (immOf w)
  | 0x09#6 => .addiu (rtOf w) (rsOf w) (immOf w)
  | 0x0A#6 => .slti (rtOf w) (rsOf w) (immOf w)
  | 0x0B#6 => .sltiu (rtOf w) (rsOf w) (immOf w)
  | 0x0C#6 => .andi (rtOf w) (rsOf w) (immOf w)
  | 0x0D#6 => .ori (rtOf w) (rsOf w) (immOf w)
  | 0x0E#6 => .xori (rtOf w) (rsOf w) (immOf w)
  | 0x0F#6 => .lui (rtOf w) (immOf w)
  | 0x10#6 => decodeCop0 w
  | 0x12#6 => decodeCop2 w
  | 0x20#6 => .lb (rtOf w) (immOf w) (rsOf w)
  | 0x21#6 => .lh (rtOf w) (immOf w) (rsOf w)
  | 0x22#6 => .lwl (rtOf w) (immOf w) (rsOf w)
  | 0x23#6 => .lw (rtOf w) (immOf w) (rsOf w)
  | 0x24#6 => .lbu (rtOf w) (immOf w) (rsOf w)
  | 0x25#6 => .lhu (rtOf w) (immOf w) (rsOf w)
  | 0x26#6 => .lwr (rtOf w) (immOf w) (rsOf w)
  | 0x28#6 => .sb (rtOf w) (immOf w) (rsOf w)
  | 0x29#6 => .sh (rtOf w) (immOf w) (rsOf w)
  | 0x2A#6 => .swl (rtOf w) (immOf w) (rsOf w)
  | 0x2B#6 => .sw (rtOf w) (immOf w) (rsOf w)
  | 0x2E#6 => .swr (rtOf w) (immOf w) (rsOf w)
  | 0x32#6 => .lwc2 (rtOf w) (immOf w) (rsOf w)
  | 0x3A#6 => .swc2 (rtOf w) (immOf w) (rsOf w)
  | _ => .unimplemented w

/-! ### Bytes (R65, R90) -/

/-- The word whose bytes, from the lowest address up, are `b0 b1 b2 b3` (little-endian, R65). -/
def wordOfBytes (b0 b1 b2 b3 : Byte) : Word := b3 ++ b2 ++ b1 ++ b0

/-- Byte `k` of a word: its bits `8k+7 : 8k` (R65). -/
def byteOfWord (w : Word) (k : Nat) : Byte := w.extractLsb' (8 * k) 8

/-- The bytes of a word in memory order. -/
def bytesOfWord (w : Word) : List Byte := [byteOfWord w 0, byteOfWord w 1, byteOfWord w 2, byteOfWord w 3]

/-- Why a list of bytes holds no instruction. -/
inductive DecodeError where
  /-- Fewer than the four bytes of an instruction (R90). -/
  | tooShort (length : Nat)
deriving DecidableEq, Repr

/-- The instruction at the head of a list of bytes, and the bytes after it. -/
def decode : List Byte → Except DecodeError (Instr × List Byte)
  | b0 :: b1 :: b2 :: b3 :: rest => .ok (decodeWord (wordOfBytes b0 b1 b2 b3), rest)
  | bytes => .error (.tooShort bytes.length)

/-- The instruction the decoder reads from an instruction whose bits are `w`, its bytes laid out in memory order; `none`
where `nbits` is more than an instruction has. Bits of `w` from `nbits` up are dropped. -/
def decodeTableWord (nbits w : Nat) : Option Instr :=
  if nbits ≤ 32 then
    match decode (bytesOfWord (BitVec.ofNat 32 (w % 2 ^ nbits))) with
    | .ok (i, _) => some i
    | .error _ => none
  else none

/-! ### The encoder -/

/-- R-type (R92, R107). -/
def rWord (rs rt rd sa : BitVec 5) (funct : BitVec 6) : Word := 0x00#6 ++ rs ++ rt ++ rd ++ sa ++ funct
/-- I-type (R92, R107). -/
def iWord (op : BitVec 6) (rs rt : BitVec 5) (imm : Half) : Word := op ++ rs ++ rt ++ imm
/-- J-type (R92, R107). -/
def jWord (op : BitVec 6) (target : BitVec 26) : Word := op ++ target
/-- The coprocessor register-move format, and `RFE` with its `funct` (R92). -/
def copWord (op : BitVec 6) (rs rt rd : BitVec 5) (funct : BitVec 6) : Word := op ++ rs ++ rt ++ rd ++ 0#5 ++ funct

/-- The word of an instruction, every ignored bit 0 and `rt` = 0 or 1 for `BLTZ` and `BGEZ` (the canonical encodings of
R213, R214). -/
def encode : Instr → Word
  | .sll rd rt sa => rWord 0 rt rd sa 0x00
  | .srl rd rt sa => rWord 0 rt rd sa 0x02
  | .sra rd rt sa => rWord 0 rt rd sa 0x03
  | .sllv rd rt rs => rWord rs rt rd 0 0x04
  | .srlv rd rt rs => rWord rs rt rd 0 0x06
  | .srav rd rt rs => rWord rs rt rd 0 0x07
  | .jr rs => rWord rs 0 0 0 0x08
  | .jalr rd rs => rWord rs 0 rd 0 0x09
  | .syscall code => 0x00#6 ++ code ++ 0x0C#6
  | .brk code => 0x00#6 ++ code ++ 0x0D#6
  | .mfhi rd => rWord 0 0 rd 0 0x10
  | .mthi rs => rWord rs 0 0 0 0x11
  | .mflo rd => rWord 0 0 rd 0 0x12
  | .mtlo rs => rWord rs 0 0 0 0x13
  | .mult rs rt => rWord rs rt 0 0 0x18
  | .multu rs rt => rWord rs rt 0 0 0x19
  | .div rs rt => rWord rs rt 0 0 0x1A
  | .divu rs rt => rWord rs rt 0 0 0x1B
  | .add rd rs rt => rWord rs rt rd 0 0x20
  | .addu rd rs rt => rWord rs rt rd 0 0x21
  | .sub rd rs rt => rWord rs rt rd 0 0x22
  | .subu rd rs rt => rWord rs rt rd 0 0x23
  | .and rd rs rt => rWord rs rt rd 0 0x24
  | .or rd rs rt => rWord rs rt rd 0 0x25
  | .xor rd rs rt => rWord rs rt rd 0 0x26
  | .nor rd rs rt => rWord rs rt rd 0 0x27
  | .slt rd rs rt => rWord rs rt rd 0 0x2A
  | .sltu rd rs rt => rWord rs rt rd 0 0x2B
  | .bltzal rs offset => iWord 0x01 rs 0x10 offset
  | .bgezal rs offset => iWord 0x01 rs 0x11 offset
  | .bltz rs offset => iWord 0x01 rs 0x00 offset
  | .bgez rs offset => iWord 0x01 rs 0x01 offset
  | .j target => jWord 0x02 target
  | .jal target => jWord 0x03 target
  | .beq rs rt offset => iWord 0x04 rs rt offset
  | .bne rs rt offset => iWord 0x05 rs rt offset
  | .blez rs offset => iWord 0x06 rs 0 offset
  | .bgtz rs offset => iWord 0x07 rs 0 offset
  | .addi rt rs imm => iWord 0x08 rs rt imm
  | .addiu rt rs imm => iWord 0x09 rs rt imm
  | .slti rt rs imm => iWord 0x0A rs rt imm
  | .sltiu rt rs imm => iWord 0x0B rs rt imm
  | .andi rt rs imm => iWord 0x0C rs rt imm
  | .ori rt rs imm => iWord 0x0D rs rt imm
  | .xori rt rs imm => iWord 0x0E rs rt imm
  | .lui rt imm => iWord 0x0F 0 rt imm
  | .mfc0 rt rd => copWord 0x10 0x00 rt rd 0
  | .mtc0 rt rd => copWord 0x10 0x04 rt rd 0
  | .rfe => copWord 0x10 0x10 0 0 0x10
  | .mfc2 rt rd => copWord 0x12 0x00 rt rd 0
  | .cfc2 rt rd => copWord 0x12 0x02 rt rd 0
  | .mtc2 rt rd => copWord 0x12 0x04 rt rd 0
  | .ctc2 rt rd => copWord 0x12 0x06 rt rd 0
  | .cop2 command => 0x12#6 ++ 1#1 ++ command
  | .lb rt offset base => iWord 0x20 base rt offset
  | .lh rt offset base => iWord 0x21 base rt offset
  | .lwl rt offset base => iWord 0x22 base rt offset
  | .lw rt offset base => iWord 0x23 base rt offset
  | .lbu rt offset base => iWord 0x24 base rt offset
  | .lhu rt offset base => iWord 0x25 base rt offset
  | .lwr rt offset base => iWord 0x26 base rt offset
  | .sb rt offset base => iWord 0x28 base rt offset
  | .sh rt offset base => iWord 0x29 base rt offset
  | .swl rt offset base => iWord 0x2A base rt offset
  | .sw rt offset base => iWord 0x2B base rt offset
  | .swr rt offset base => iWord 0x2E base rt offset
  | .lwc2 rt offset base => iWord 0x32 base rt offset
  | .swc2 rt offset base => iWord 0x3A base rt offset
  | .unimplemented word => word

/-- The bytes of an instruction in memory order. -/
def encodeBytes (i : Instr) : List Byte := bytesOfWord (encode i)

end Sys2Proof
end

