-- ==== Sys2Proof/Config.lean ====
section
/-! DEFINITION. What the platform fixes (spec/00_scope.md R5) and the free values: the bytes a bus read returns where
no byte is stored, the levels of the interrupt input (spec/93_implementation_defined.md U6, U15), and the one point on which
two pairs of rules differ (R204 and R353, R47 and R303). -/

namespace Sys2Proof.Config

/-- RESET_PC, the reset vector (R5, R341). -/
def resetPc : Word := 0xBFC00000#32

/-- The default of the parameter PRID_VALUE (R5, R48). The machine reads the `prid` field of its state; this is the value
reset puts there (log 8). -/
def pridValue : Word := 0x00000002#32

/-- FREE VALUE (log 1). The byte that bus read number `read` returns for `address` when the address has no storage, or its
storage lists no byte: R62 and U6 leave it unconstrained. -/
opaque freeByte (read address : Nat) : Byte

/-- FREE VALUE (log 4). The level of `ext_irq[5:0]` at draw number `draw`, once the levels of `irqFeed` are used up: U15
allows any value at each step. -/
opaque extIrqLevel (draw : Nat) : BitVec 6

/-- FREE VALUE (log 23). Whether EPC, after an exception in the slot of a branch that itself stood in the slot of a taken
branch, is that branch (R204, R353) or the victim's address less 4 (R47, R303 step 5). -/
opaque epcIsTheBranch : Bool

end Sys2Proof.Config
end

