-- ==== Sys2Proof/Machine/State.lean ====
section
/-! DEFINITION. The state of the core (spec/10_state.md), plain data: the architectural registers, the delay mechanisms,
the coprocessor 0 block, the memory behind the bus, the inputs and outputs of a step, and the state after reset
(spec/70_reset_and_hazards.md R341). -/

namespace Sys2Proof.Machine

/-- A staged register write of a load or `MFC0` (R28): the destination, the value the next instruction still reads, and the
loaded value. -/
structure PendingLoad where
  index : RegIdx
  old : Word
  new : Word
deriving DecidableEq, Repr

/-- The stored bits of `CAUSE` (R45, R46, R251): `BD` (bit 31), the two software interrupt bits `IP[1:0]` (bits 9:8) and
`ExcCode` (bits 6:2). Bits 15:10 follow `ext_irq`; every other bit reads 0 and has no storage (log 9). -/
structure CauseBits where
  bd : Bool
  ip : BitVec 2
  excCode : BitVec 5
deriving DecidableEq, Repr

/-- The causes of R300. The bus errors, `reserveInst` and `coprocessorUnusable` have a code and nothing in this core raises them (R300). -/
inductive ExcCause where
  | interrupt
  | loadAddrError
  | writeAddrError
  | instrBusError
  | dataBusError
  | syscall
  | breakPoint
  | reserveInst
  | coprocessorUnusable
  | overflow
deriving DecidableEq, Repr

/-- The registers of the coprocessor 0 block (R30, R31). -/
inductive Cop0Reg where
  | bpc | bda | jumpDest | dcic | badVAddr | bdam | bpcm | sr | cause | epc | prid
deriving DecidableEq, Repr

/-- The direction of a bus operation (R60). -/
inductive BusKind where
  | read | write
deriving DecidableEq, Repr

/-- The width of a bus operation (R60): `read8`/`write8`, `read16`/`write16`, `read32`/`write32`. -/
inductive BusWidth where
  | byte | half | word
deriving DecidableEq, Repr

/-- One bus operation (R60): its kind, width and address, and the value read or written, zero-extended to 32 bits. -/
structure BusOp where
  kind : BusKind
  width : BusWidth
  addr : Word
  data : Word
deriving DecidableEq, Repr

/-- A pulse of the diagnostic output (R12): the instruction word and its address. -/
structure DiagPulse where
  word : Word
  addr : Word
deriving DecidableEq, Repr

/-- What a step presents on the coprocessor 2 port (R13): the instruction word and, where the instruction has them, the
effective address and the value of `x[rt]`. -/
structure Cop2Present where
  word : Word
  addr : Option Word
  value : Option Word
deriving DecidableEq, Repr

/-- A run of aligned words of the bus address space and what the bus collaborator has there (R62, R63; log 3): storage from
word number `storage` on, or no storage of its own, which is a device or nothing at all (U6). -/
structure BusRegion where
  first : BitVec 30
  count : Nat
  storage : Option (BitVec 30)
deriving DecidableEq, Repr

/-- The bytes the bus collaborator stores: (storage address, byte) pairs, addresses strictly rising and below 2^32. A
storage address that is not listed holds no byte: a bus read of it returns a free value (log 1). -/
abbrev Memory := List Host.Cell

/-- The addresses from the head on are strictly rising, all above `low`, and in the 32-bit address space. -/
def Memory.risingFrom : Option Nat → Memory → Bool
  | _, [] => true
  | low, (a, _) :: m => low.all (· < a) && decide (a < 2 ^ 32) && Memory.risingFrom (some a) m

/-- The canonical form: equal memories are equal lists. -/
def Memory.wf (m : Memory) : Bool := m.risingFrom none

/-- The state of the core and of its boundary. The docstring of a field names the rule that gives it. -/
structure State where
  /-- `gpr[0..31]` (R20, R21). -/
  gpr : Vector Word 32
  /-- `R_in`, the operand view of the step in progress (R124): the MODEL's own field (log 17). -/
  operandView : Vector Word 32
  /-- `pc` (R23). -/
  pc : Word
  /-- `next_pc` (R23). -/
  nextPc : Word
  /-- `current_pc` (R24). -/
  currentPc : Word
  /-- `current_pc` as the step in progress found it: the address of the instruction of the step before, which is the branch
  when this step's instruction sits in a delay slot (R24, R27, R204). The MODEL's own field (log 17, log 23). -/
  priorPc : Word
  /-- `hi` (R25). -/
  hi : Word
  /-- `lo` (R25). -/
  lo : Word
  /-- `instruction`, the word `I` of the step (R26). -/
  instruction : Word
  /-- The live delay pair, about the instruction dispatched next (R27). -/
  branchDelayActive : Bool
  branchTaken : Bool
  /-- The saved delay pair, about the instruction of the current step (R27). -/
  savedBranchDelayActive : Bool
  savedBranchTaken : Bool
  /-- `pending_load` (R28). -/
  pendingLoad : Option PendingLoad
  /-- `BPC`, `BDA`, `DCIC`, `BDAM`, `BPCM`: storage only (R40). -/
  bpc : Word
  bda : Word
  dcic : Word
  bdam : Word
  bpcm : Word
  /-- `JUMPDEST` (R41). -/
  jumpDest : Word
  /-- `BadVAddr` (R42). -/
  badVAddr : Word
  /-- `SR`, all 32 bits stored (R43). -/
  sr : Word
  /-- The stored bits of `CAUSE` (R45). -/
  cause : CauseBits
  /-- `EPC` (R47). -/
  epc : Word
  /-- `PRID`, the constant PRID_VALUE (R48): nothing writes it (log 8). -/
  prid : Word
  /-- `ext_irq[5:0]` as sampled in the step in progress (R11, R46). -/
  extIrq : BitVec 6
  /-- The levels of `ext_irq` the environment presents in the coming steps, the next one first; when the list is empty a
  level is a free value: the MODEL's own field for an input (U15, log 4). -/
  irqFeed : List (BitVec 6)
  /-- The memory behind the bus (R60, R63). -/
  mem : Memory
  /-- The address map of the bus collaborator: the first region that holds an address decides; an address in no region is
  storage of its own (R62, R63, R72). No step changes it: the MODEL's own field for the collaborator (log 2, log 3). -/
  busMap : List BusRegion
  /-- The bus operations of the step in progress, oldest first (R68, R70; log 7). -/
  bus : List BusOp
  /-- The diagnostic pulse of the step in progress (R12; log 7). -/
  diag : Option DiagPulse
  /-- The presentation on the coprocessor 2 port of the step in progress (R13; log 7). -/
  cop2 : Option Cop2Present
  /-- The number of the next free value: the MODEL's own field (log 20). -/
  freeCount : Nat
deriving DecidableEq, Repr

/-- The reasons for which the machine stops: there is none. "The core itself never produces an unrecoverable error" (R12),
and "every dispatch step terminates" (R361); an architectural exception is a next state (R129). No meaning raises a fault,
so the type has no constructor; safe, since nothing is cut short. -/
inductive Fault where
deriving DecidableEq, Repr

/-- The reasons for which an instruction has no meaning here. -/
inductive Refusal where
  /-- Raised by `exec` in the arm of an instruction that has no meaning yet; safe, the run ends there. No arm raises it
  now. -/
  | notModelled (mnemonic : String)
deriving DecidableEq, Repr

/-- The state when the reset input is released (R340, R341): the values of R341's table; memory lists nothing; the
model's own fields and the boundary at the values of log 5. -/
def State.reset : State where
  gpr := Vector.replicate 32 0#32
  operandView := Vector.replicate 32 0#32
  pc := Config.resetPc
  nextPc := Config.resetPc + 4#32
  currentPc := Config.resetPc
  priorPc := 0
  hi := 0
  lo := 0
  instruction := 0
  branchDelayActive := false
  branchTaken := false
  savedBranchDelayActive := false
  savedBranchTaken := false
  pendingLoad := none
  bpc := 0
  bda := 0
  dcic := 0
  bdam := 0
  bpcm := 0
  jumpDest := 0
  badVAddr := 0
  sr := 0x00400000#32
  cause := { bd := false, ip := 0, excCode := 0 }
  epc := 0
  prid := Config.pridValue
  extIrq := 0
  irqFeed := []
  mem := []
  busMap := []
  bus := []
  diag := none
  cop2 := none
  freeCount := 0

end Sys2Proof.Machine
end

