-- ==== Sys2Proof/Machine/Operands.lean ====
section
/-! DEFINITION. Reading operands: registers through the operand view and after the commit, immediates, shift amounts,
effective addresses, branch and jump targets, the fields of `SR`, the 32-bit view of `CAUSE`, and the register numbers of
coprocessor 0. -/

namespace Sys2Proof.Machine

/-! ### Registers -/

/-- `x[i]`: the register as the executing instruction observes it, from the operand view; 0 for register 0 (R7, R21,
R124). -/
def State.x (s : State) (i : RegIdx) : Word :=
  if i = 0#5 then 0#32 else s.operandView[i.toNat]'i.isLt

/-- `xpost[i]`: the register after this step's load-delay commit; 0 for register 0 (R7, R21, R240). -/
def State.xpost (s : State) (i : RegIdx) : Word :=
  if i = 0#5 then 0#32 else s.gpr[i.toNat]'i.isLt

/-! ### Immediates (R93) -/

/-- `sext_16` (R7, R93a). -/
def sext16 (v : Half) : Word := v.signExtend 32
/-- `zext_16` (R7, R93b). -/
def zext16 (v : Half) : Word := v.setWidth 32
/-- `sext_8` (R7). -/
def sext8 (v : Byte) : Word := v.signExtend 32
/-- `zext_8` (R7). -/
def zext8 (v : Byte) : Word := v.setWidth 32
/-- `imm16 << 16` (R93c). -/
def upper16 (v : Half) : Word := v ++ 0#16

/-- The amount of a variable shift: `x[rs][4:0]` (R170). -/
def shiftAmount (v : Word) : BitVec 5 := v.extractLsb' 0 5

/-! ### Addresses -/

/-- The effective address of a load or store: `x[rs] + sext_16(imm16)` modulo 2^32 (R220). -/
def State.effAddr (s : State) (base : RegIdx) (offset : Half) : Word := s.x base + sext16 offset

/-- `addr & ~3`, the word an unaligned load or store accesses (R240). -/
def wordAligned (addr : Word) : Word := addr &&& 0xFFFFFFFC#32

/-- `addr[1:0]`, the byte of the word an address names (R240). -/
def byteInWord (addr : Word) : BitVec 2 := addr.extractLsb' 0 2

/-- The target of a branch at `current_pc`: `current_pc + 4 + (sext_16(imm16) << 2)` (R200a). -/
def State.branchTarget (s : State) (offset : Half) : Word := s.currentPc + 4#32 + sext16 offset <<< 2

/-- The target of `J` and `JAL`: `(current_pc + 4)[31:28] : target26 : 0b00` (R200b). -/
def State.jumpTarget (s : State) (target : BitVec 26) : Word :=
  (s.currentPc + 4#32).extractLsb' 28 4 ++ target ++ 0b00#2

/-- The link value, the address after the delay slot: `current_pc + 8` (R200d). -/
def State.linkValue (s : State) : Word := s.currentPc + 8#32

/-! ### SR and CAUSE -/

/-- `SR.IEc`, bit 0: interrupts are enabled (R43). -/
def State.iec (s : State) : Bool := s.sr.getLsbD 0
/-- `SR.KUc`, bit 1: the mode, false for KERNEL (R43, R320). -/
def State.kuc (s : State) : Bool := s.sr.getLsbD 1
/-- `SR.IM`, bits 15:8: the interrupt mask (R43). -/
def State.interruptMask (s : State) : BitVec 8 := s.sr.extractLsb' 8 8
/-- `SR.BEV`, bit 22: bootstrap vectors (R43, R304). -/
def State.bev (s : State) : Bool := s.sr.getLsbD 22

/-- The sideband export of `SR` to the bus collaborator (R49). -/
def State.srExport (s : State) : Word := s.sr

/-- `CAUSE.IP[7:0]`, bits 15:8: the sampled lines above the two software bits (R46, R310). -/
def State.interruptPending (s : State) : BitVec 8 := s.extIrq ++ s.cause.ip

/-- The 32-bit view of `CAUSE` (R45, R46, R251): BD, the lines, the software bits, ExcCode; every other bit 0. -/
def State.causeWord (s : State) : Word :=
  BitVec.ofBool s.cause.bd ++ 0#15 ++ s.extIrq ++ s.cause.ip ++ 0#1 ++ s.cause.excCode ++ 0#2

/-- The coprocessor 0 register a number names (R31); none for 0, 1, 2, 4, 10 and 16 to 31. -/
def cop0Reg? (rd : RegIdx) : Option Cop0Reg :=
  match rd with
  | 3#5 => some .bpc
  | 5#5 => some .bda
  | 6#5 => some .jumpDest
  | 7#5 => some .dcic
  | 8#5 => some .badVAddr
  | 9#5 => some .bdam
  | 11#5 => some .bpcm
  | 12#5 => some .sr
  | 13#5 => some .cause
  | 14#5 => some .epc
  | 15#5 => some .prid
  | _ => none

end Sys2Proof.Machine
end

