-- ==== Sys2Proof/Machine/Flags.lean ====
section
/-! DEFINITION. The conditions instructions test. The core has no status flags (spec/10_state.md R29): signed overflow is an
exception, comparisons write a register, branches compare directly. -/

namespace Sys2Proof.Machine

/-- `a + b` overflows as a signed sum: the signs agree and the sign of the wrapped sum differs (R140, R141). -/
def addOverflows (a b : Word) : Bool := a.msb == b.msb && (a + b).msb != a.msb

/-- `a - b` overflows as a signed difference: the signs differ and the sign of the wrapped difference is not the minuend's
(R140, R143). -/
def subOverflows (a b : Word) : Bool := a.msb != b.msb && (a - b).msb != a.msb

/-- The 0 or 1 a set instruction writes (R149, R150). -/
def ofCondition (c : Bool) : Word := if c then 1#32 else 0#32

/-- `x[rs] == 0 or x[rs][31] == 1`, the condition of `BLEZ` (R211). -/
def isLez (v : Word) : Bool := v == 0#32 || v.msb

/-- `x[rs] != 0 and x[rs][31] == 0`, the condition of `BGTZ` (R212). -/
def isGtz (v : Word) : Bool := v != 0#32 && !v.msb

/-- `x[rs][31] == 1`, the condition of `BLTZ` and `BLTZAL` (R213, R215). -/
def isLtz (v : Word) : Bool := v.msb

/-- `x[rs][31] == 0`, the condition of `BGEZ` and `BGEZAL` (R214, R216). -/
def isGez (v : Word) : Bool := !v.msb

/-- A halfword access needs an even address (R66). -/
def halfMisaligned (addr : Word) : Bool := addr.getLsbD 0

/-- A word access, and a fetch, need a multiple of 4 (R66, R67). -/
def wordMisaligned (addr : Word) : Bool := addr.extractLsb' 0 2 != 0#2

/-- The condition of R311: `SR[0] == 1 and (SR[15:8] & CAUSE[15:8]) != 0`. -/
def State.interruptTaken (s : State) : Bool := s.iec && (s.interruptMask &&& s.interruptPending) != 0#8

end Sys2Proof.Machine
end

