-- ==== Sys2Proof/Machine/Ops.lean ====
section
/-! DEFINITION. The operations every meaning is written with: register writes and staged writes, the bus and the memory
behind it, the delay slots, exception entry and the return from one, coprocessor 0 access, the outputs, and the phases
P1 to P5 of the dispatch step (spec/40_dispatch_and_delay.md R120). -/

namespace Sys2Proof.Machine

/-- What a meaning answers. -/
abbrev Result := Host.Outcome State Fault Refusal

/-! ### Registers -/

/-- `x[i] <- v`: at once, discarded for register 0 (R7, R21). -/
def State.writeGpr (s : State) (i : RegIdx) (v : Word) : State :=
  { s with gpr := if i = 0#5 then s.gpr else s.gpr.set i.toNat v i.isLt }

/-- `DelayedWrite(i, v)` (R7, R125). The old value is the register as it stands, which the next instruction reads (R28). -/
def State.stageLoad (s : State) (i : RegIdx) (v : Word) : State :=
  { s with pendingLoad := some { index := i, old := s.xpost i, new := v } }

/-- `hi <- h ; lo <- l` (R25). -/
def State.writeHiLo (s : State) (h l : Word) : State := { s with hi := h, lo := l }

/-! ### Memory -/

/-- The byte memory lists at an address, if any. -/
def Memory.read? : Memory → Nat → Option Byte
  | [], _ => none
  | (a, b) :: m, k => if a = k then some b else Memory.read? m k

/-- Put a byte at an address, keeping the addresses strictly rising. -/
def Memory.write : Memory → Nat → Byte → Memory
  | [], k, v => [(k, v)]
  | (a, b) :: m, k, v =>
    if k < a then (k, v) :: (a, b) :: m
    else if k = a then (k, v) :: m
    else (a, b) :: Memory.write m k v

/-- Put a byte into storage; without storage the write has no effect (U6). -/
def Memory.store (m : Memory) (target : Option Word) (v : Byte) : Memory :=
  match target with
  | some p => m.write p.toNat v
  | none => m

/-- The storage word an address map gives for a word of the bus address space, if any (log 2, log 3). -/
def storageWord : List BusRegion → BitVec 30 → Option (BitVec 30)
  | [], n => some n
  | r :: map, n =>
    if r.first.toNat ≤ n.toNat ∧ n.toNat < r.first.toNat + r.count then r.storage.map (· + (n - r.first))
    else storageWord map n

/-- The storage address behind a bus address, if there is one (R62, R63; U6). -/
def State.storageAt (s : State) (addr : Word) : Option Word :=
  (storageWord s.busMap (addr.extractLsb' 2 30)).map (· ++ addr.extractLsb' 0 2)

/-- The byte that is stored behind a bus address, if there is one. -/
def State.byteAt? (s : State) (addr : Word) : Option Byte := (s.storageAt addr).bind fun p => s.mem.read? p.toNat

/-- The byte a bus read of this moment returns for an address, which is what `read8` returns: the stored one, or a free
value (R60, R62, R63; log 1). -/
def State.busByte (s : State) (addr : Word) : Byte :=
  match s.byteAt? addr with
  | some b => b
  | none => Config.freeByte s.freeCount addr.toNat

/-- The memory with a halfword put behind `addr` and `addr + 1`, little-endian (R65). -/
def State.putHalf (s : State) (addr : Word) (v : Half) : Memory :=
  (s.mem.store (s.storageAt addr) (v.extractLsb' 0 8)).store (s.storageAt (addr + 1#32)) (v.extractLsb' 8 8)

/-- The memory with a word put behind `addr` to `addr + 3`, its byte `k` behind `addr + k` (R65). -/
def State.putWord (s : State) (addr v : Word) : Memory :=
  (((s.mem.store (s.storageAt addr) (byteOfWord v 0)).store (s.storageAt (addr + 1#32)) (byteOfWord v 1)).store
    (s.storageAt (addr + 2#32)) (byteOfWord v 2)).store (s.storageAt (addr + 3#32)) (byteOfWord v 3)

/-- Record a bus read and number it (R68, R70; log 20). -/
def State.afterRead (s : State) (width : BusWidth) (addr data : Word) : State :=
  { s with bus := s.bus ++ [⟨.read, width, addr, data⟩], freeCount := s.freeCount + 1 }

/-- Replace the memory by what a bus write leaves, and record the write (R68, R70). -/
def State.afterWrite (s : State) (width : BusWidth) (addr data : Word) (mem : Memory) : State :=
  { s with mem := mem, bus := s.bus ++ [⟨.write, width, addr, data⟩] }

/-- The value `read16` returns, little-endian (R60, R65). -/
def State.halfAt (s : State) (addr : Word) : Half := s.busByte (addr + 1#32) ++ s.busByte addr

/-- The value `read32` returns, little-endian (R60, R65). -/
def State.wordAt (s : State) (addr : Word) : Word :=
  wordOfBytes (s.busByte addr) (s.busByte (addr + 1#32)) (s.busByte (addr + 2#32)) (s.busByte (addr + 3#32))

/-- The state after `read8(addr)`. -/
def State.read8 (s : State) (addr : Word) : State := s.afterRead .byte addr (zext8 (s.busByte addr))
/-- The state after `read16(addr)`. -/
def State.read16 (s : State) (addr : Word) : State := s.afterRead .half addr (zext16 (s.halfAt addr))
/-- The state after `read32(addr)`. -/
def State.read32 (s : State) (addr : Word) : State := s.afterRead .word addr (s.wordAt addr)

/-- `write8(addr, v)` (R60). -/
def State.write8 (s : State) (addr : Word) (v : Byte) : State :=
  s.afterWrite .byte addr (zext8 v) (s.mem.store (s.storageAt addr) v)

/-- `write16(addr, v)`, little-endian (R60, R65). -/
def State.write16 (s : State) (addr : Word) (v : Half) : State :=
  s.afterWrite .half addr (zext16 v) (s.putHalf addr v)

/-- `write32(addr, v)`, little-endian (R60, R65). -/
def State.write32 (s : State) (addr v : Word) : State := s.afterWrite .word addr v (s.putWord addr v)

/-- The state with storage behind `addr`: where the map gives none, the word of `addr` becomes storage of its own. Only
`withFetchWord` uses it (log 6). -/
def State.withStorage (s : State) (addr : Word) : State :=
  match s.storageAt addr with
  | some _ => s
  | none => { s with busMap := ⟨addr.extractLsb' 2 30, 1, some (addr.extractLsb' 2 30)⟩ :: s.busMap }

/-! ### Exceptions -/

/-- The `ExcCode` of a cause (R300). -/
def ExcCause.code : ExcCause → BitVec 5
  | .interrupt => 0
  | .loadAddrError => 4
  | .writeAddrError => 5
  | .instrBusError => 6
  | .dataBusError => 7
  | .syscall => 8
  | .breakPoint => 9
  | .reserveInst => 10
  | .coprocessorUnusable => 11
  | .overflow => 12

/-- The vector of a cause, by `SR.BEV` as it stands at entry (R304): the debug-break vectors for `BreakPoint`, the general
vectors for every other cause. -/
def ExcCause.vector (c : ExcCause) (bev : Bool) : Word :=
  match c with
  | .breakPoint => if bev then 0xBFC00140#32 else 0x80000040#32
  | _ => if bev then 0xBFC00180#32 else 0x80000080#32

/-- The push of the privilege stack: `SR[5:4] <- SR[3:2] ; SR[3:2] <- SR[1:0] ; SR[1:0] <- 0b00` (R44, R303 step 4). -/
def pushPrivilege (sr : Word) : Word := (sr &&& 0xFFFFFFC0#32) ||| ((sr <<< 2) &&& 0x3C#32)

/-- The pop: `SR[1:0] <- SR[3:2] ; SR[3:2] <- SR[5:4]`, `SR[5:4]` kept (R44, R256). -/
def popPrivilege (sr : Word) : Word := (sr &&& 0xFFFFFFF0#32) ||| ((sr >>> 2) &&& 0x0F#32)

/-- EPC of a victim in a delay slot: the branch, which the step before executed (R204, R353), and the victim's address rolled
back by 4 (R47, R303 step 5). These are one address unless the branch itself stood in the slot of a taken branch; there it
is left free which of the two it is (log 23). -/
def State.slotEpc (s : State) (victim : Word) : Word :=
  if victim == s.priorPc + 4#32 || Config.epcIsTheBranch then s.priorPc else victim - 4#32

/-- Exception entry, `signalException` (R303), for a cause, the victim address `V` and the successor address `S`. -/
def State.enterException (s : State) (c : ExcCause) (victim successor : Word) : State :=
  { s with
    epc := if s.savedBranchDelayActive then s.slotEpc victim else victim
    cause := { bd := s.savedBranchDelayActive, ip := s.cause.ip, excCode := c.code }
    sr := pushPrivilege s.sr
    jumpDest := if s.savedBranchDelayActive then successor else s.jumpDest
    pc := c.vector s.bev
    nextPc := c.vector s.bev + 4#32 }

/-- `raise E` in phase P6: victim `current_pc`, successor the already advanced `pc` (R303). -/
def State.raise (s : State) (c : ExcCause) : State := s.enterException c s.currentPc s.pc

/-- `raise E(BadVAddr <- addr)` in phase P6 (R42, R223). -/
def State.raiseAddrError (s : State) (c : ExcCause) (addr : Word) : State :=
  { s with badVAddr := addr }.raise c

/-- The return from an exception (R256, R315): it pops the privilege stack and does nothing else. -/
def State.returnFromException (s : State) : State := { s with sr := popPrivilege s.sr }

/-! ### Loads and stores (R220 to R223) -/

/-- A byte load: read, extend, stage (R221). -/
def State.loadByte (s : State) (ext : Byte → Word) (rt : RegIdx) (addr : Word) : State :=
  (s.read8 addr).stageLoad rt (ext (s.busByte addr))

/-- A halfword load: `LoadAddrError` on an odd address, else read, extend, stage (R221, R223). -/
def State.loadHalf (s : State) (ext : Half → Word) (rt : RegIdx) (addr : Word) : State :=
  if halfMisaligned addr then s.raiseAddrError .loadAddrError addr
  else (s.read16 addr).stageLoad rt (ext (s.halfAt addr))

/-- A word load: `LoadAddrError` unless a multiple of 4, else read, stage (R221, R223). -/
def State.loadWord (s : State) (rt : RegIdx) (addr : Word) : State :=
  if wordMisaligned addr then s.raiseAddrError .loadAddrError addr
  else (s.read32 addr).stageLoad rt (s.wordAt addr)

/-- A halfword store: `WriteAddrError` on an odd address, else write the low half (R222, R223). -/
def State.storeHalf (s : State) (addr v : Word) : State :=
  if halfMisaligned addr then s.raiseAddrError .writeAddrError addr
  else s.write16 addr (v.extractLsb' 0 16)

/-- A word store: `WriteAddrError` unless a multiple of 4, else write the word (R222, R223). -/
def State.storeWord (s : State) (addr v : Word) : State :=
  if wordMisaligned addr then s.raiseAddrError .writeAddrError addr
  else s.write32 addr v

/-- `LWL` and `LWR`: read the aligned word, merge with `xpost[rt]`, stage (R240). -/
def State.loadMerged (s : State) (merge : BitVec 2 → Word → Word → Word) (rt : RegIdx) (addr : Word) : State :=
  (s.read32 (wordAligned addr)).stageLoad rt (merge (byteInWord addr) (s.wordAt (wordAligned addr)) (s.xpost rt))

/-- `SWL` and `SWR`: read the aligned word, merge `x[rt]` into it, write it back (R240). -/
def State.storeMerged (s : State) (merge : BitVec 2 → Word → Word → Word) (rt : RegIdx) (addr : Word) : State :=
  (s.read32 (wordAligned addr)).write32 (wordAligned addr)
    (merge (byteInWord addr) (s.wordAt (wordAligned addr)) (s.x rt))

/-! ### Branches (R201) -/

/-- What a branch or jump writes: the live delay pair, and the target into `next_pc` if taken (R201). -/
def State.branchTo (s : State) (taken : Bool) (target : Word) : State :=
  { s with
    branchDelayActive := true
    branchTaken := taken
    nextPc := if taken then target else s.nextPc }

/-! ### Coprocessor 0 (R251, R252) -/

/-- The value `MFC0` reads (R251). -/
def State.readCop0 (s : State) : Cop0Reg → Word
  | .bpc => s.bpc
  | .bda => s.bda
  | .jumpDest => s.jumpDest
  | .dcic => s.dcic
  | .badVAddr => s.badVAddr
  | .bdam => s.bdam
  | .bpcm => s.bpcm
  | .sr => s.sr
  | .cause => s.causeWord
  | .epc => s.epc
  | .prid => s.prid

/-- What `MTC0` writes under the access policy of R30 (R252). -/
def State.writeCop0 (s : State) (r : Cop0Reg) (v : Word) : State :=
  match r with
  | .bpc => { s with bpc := v }
  | .bda => { s with bda := v }
  | .dcic => { s with dcic := v }
  | .bdam => { s with bdam := v }
  | .bpcm => { s with bpcm := v }
  | .sr => { s with sr := v }
  | .cause => { s with cause := { s.cause with ip := v.extractLsb' 8 2 } }
  | .jumpDest | .badVAddr | .epc | .prid => s

/-! ### Outputs -/

/-- `Diag(I, current_pc)` (R7, R12). -/
def State.pulseDiag (s : State) : State := { s with diag := some ⟨s.instruction, s.currentPc⟩ }

/-- Present the instruction word, and an address or a value, on the coprocessor 2 port (R13, R270). -/
def State.presentCop2 (s : State) (addr value : Option Word) : State :=
  { s with cop2 := some ⟨s.instruction, addr, value⟩ }

/-! ### The phases before execution (R120) -/

/-- P1: the live delay pair moves to the saved pair and is cleared (R121), and the address of the instruction of the step
before is kept (R204). The outputs of the step before are no longer driven (log 7). -/
def State.phase1 (s : State) : State :=
  { s with
    savedBranchDelayActive := s.branchDelayActive
    savedBranchTaken := s.branchTaken
    branchDelayActive := false
    branchTaken := false
    priorPc := s.currentPc
    bus := []
    diag := none
    cop2 := none }

/-- P2: the operand view is the register file before the commit; then the pending load commits, and none is pending
(R124, R125). -/
def State.phase2 (s : State) : State :=
  { s with
    operandView := s.gpr
    gpr := match s.pendingLoad with
      | none => s.gpr
      | some p => (s.writeGpr p.index p.new).gpr
    pendingLoad := none }

/-- The first half of P3: sample `ext_irq` (R310, R311), the next level of the feed or a free value (log 4). -/
def State.sampleIrq (s : State) : State :=
  { s with
    extIrq := s.irqFeed.headD (Config.extIrqLevel s.freeCount)
    irqFeed := s.irqFeed.tail
    freeCount := s.freeCount + 1 }

/-- P1, P2 and the sampling of P3: what every step does first. -/
def State.beginStep (s : State) : State := s.phase1.phase2.sampleIrq

/-- P3, an interrupt taken: victim `pc`, successor `next_pc` (R303, R311). -/
def State.takeInterrupt (s : State) : State := s.enterException .interrupt s.pc s.nextPc

/-- P4, `current_pc <- pc` (R24). -/
def State.latchCurrentPc (s : State) : State := { s with currentPc := s.pc }

/-- P4, the fetch address error: `BadVAddr <- pc`, victim `pc`, successor `next_pc` (R67, R303). -/
def State.fetchAddrError (s : State) : State :=
  { s with badVAddr := s.pc }.enterException .loadAddrError s.pc s.nextPc

/-- P5: fetch at `pc` and advance the pair (R23, R64). -/
def State.fetchAdvance (s : State) : State :=
  { (s.read32 s.pc) with instruction := s.wordAt s.pc, pc := s.nextPc, nextPc := s.nextPc + 4#32 }

/-! ### The reset input -/

/-- The reset input, asserted and released on a machine in any state (R340, R341): every element of the core takes its
reset value; memory "is not reset by the core", and the bus collaborator, the environment's inputs and PRID_VALUE are not the
core's to reset (log 18). -/
def State.resetCore (s : State) : State :=
  { State.reset with mem := s.mem, busMap := s.busMap, irqFeed := s.irqFeed, freeCount := s.freeCount, prid := s.prid }

end Sys2Proof.Machine
end

