-- ==== Sys2Proof/Machine/Alu.lean ====
section
/-! DEFINITION. Arithmetic, logic and comparison (spec/41_alu_arith_logic.md). Operands come from the operand view, results are written
at once (R159). -/

namespace Sys2Proof.Machine

/-- `ADD`: signed add, `Overflow` instead of the write when the sum does not fit (R140, R141). -/
def execAdd (rd rs rt : RegIdx) (s : State) : Result :=
  if addOverflows (s.x rs) (s.x rt) then .next (s.raise .overflow)
  else .next (s.writeGpr rd (s.x rs + s.x rt))

/-- `ADDU`: the wrapped sum, no trap (R142). -/
def execAddu (rd rs rt : RegIdx) (s : State) : Result :=
  .next (s.writeGpr rd (s.x rs + s.x rt))

/-- `SUB`: signed subtract, `Overflow` instead of the write when the difference does not fit (R140, R143). -/
def execSub (rd rs rt : RegIdx) (s : State) : Result :=
  if subOverflows (s.x rs) (s.x rt) then .next (s.raise .overflow)
  else .next (s.writeGpr rd (s.x rs - s.x rt))

/-- `SUBU`: the wrapped difference, no trap (R144). -/
def execSubu (rd rs rt : RegIdx) (s : State) : Result :=
  .next (s.writeGpr rd (s.x rs - s.x rt))

/-- `AND` (R145). -/
def execAnd (rd rs rt : RegIdx) (s : State) : Result :=
  .next (s.writeGpr rd (s.x rs &&& s.x rt))

/-- `OR` (R146). -/
def execOr (rd rs rt : RegIdx) (s : State) : Result :=
  .next (s.writeGpr rd (s.x rs ||| s.x rt))

/-- `XOR` (R147). -/
def execXor (rd rs rt : RegIdx) (s : State) : Result :=
  .next (s.writeGpr rd (s.x rs ^^^ s.x rt))

/-- `NOR` (R148). -/
def execNor (rd rs rt : RegIdx) (s : State) : Result :=
  .next (s.writeGpr rd (~~~(s.x rs ||| s.x rt)))

/-- `SLT`: 1 if less as signed values, else 0 (R149). -/
def execSlt (rd rs rt : RegIdx) (s : State) : Result :=
  .next (s.writeGpr rd (ofCondition ((s.x rs).slt (s.x rt))))

/-- `SLTU`: 1 if less as unsigned values, else 0 (R150). -/
def execSltu (rd rs rt : RegIdx) (s : State) : Result :=
  .next (s.writeGpr rd (ofCondition ((s.x rs).ult (s.x rt))))

/-- `ADDI`: signed add of the sign-extended immediate, `Overflow` instead of the write when it does not fit (R140, R151). -/
def execAddi (rt rs : RegIdx) (imm : Half) (s : State) : Result :=
  if addOverflows (s.x rs) (sext16 imm) then .next (s.raise .overflow)
  else .next (s.writeGpr rt (s.x rs + sext16 imm))

/-- `ADDIU`: wrapped add of the sign-extended immediate, no trap (R152). -/
def execAddiu (rt rs : RegIdx) (imm : Half) (s : State) : Result :=
  .next (s.writeGpr rt (s.x rs + sext16 imm))

/-- `SLTI`: signed comparison with the sign-extended immediate (R153). -/
def execSlti (rt rs : RegIdx) (imm : Half) (s : State) : Result :=
  .next (s.writeGpr rt (ofCondition ((s.x rs).slt (sext16 imm))))

/-- `SLTIU`: unsigned comparison with the sign-extended immediate (R154). -/
def execSltiu (rt rs : RegIdx) (imm : Half) (s : State) : Result :=
  .next (s.writeGpr rt (ofCondition ((s.x rs).ult (sext16 imm))))

/-- `ANDI` with the zero-extended immediate (R155). -/
def execAndi (rt rs : RegIdx) (imm : Half) (s : State) : Result :=
  .next (s.writeGpr rt (s.x rs &&& zext16 imm))

/-- `ORI` with the zero-extended immediate (R156). -/
def execOri (rt rs : RegIdx) (imm : Half) (s : State) : Result :=
  .next (s.writeGpr rt (s.x rs ||| zext16 imm))

/-- `XORI` with the zero-extended immediate (R157). -/
def execXori (rt rs : RegIdx) (imm : Half) (s : State) : Result :=
  .next (s.writeGpr rt (s.x rs ^^^ zext16 imm))

/-- `LUI`: the immediate in the high half, at once, not through the load delay (R158). -/
def execLui (rt : RegIdx) (imm : Half) (s : State) : Result :=
  .next (s.writeGpr rt (upper16 imm))

end Sys2Proof.Machine
end

