-- ==== Sys2Proof/Machine/Branch.lean ====
section
/-! DEFINITION. Jumps and branches (spec/44_branch_jump.md). The target goes to `next_pc`, the next instruction executes as the delay
slot (R122, R201). -/

namespace Sys2Proof.Machine

/-- `J` (R205). -/
def execJ (target : BitVec 26) (s : State) : Result :=
  .next (s.branchTo true (s.jumpTarget target))

/-- `JAL`: the link goes to `$31` (R206). -/
def execJal (target : BitVec 26) (s : State) : Result :=
  .next ((s.writeGpr 31#5 s.linkValue).branchTo true (s.jumpTarget target))

/-- `JR`: all 32 bits of `x[rs]`, not masked (R200c, R207). -/
def execJr (rs : RegIdx) (s : State) : Result :=
  .next (s.branchTo true (s.x rs))

/-- `JALR`: the target is read before the link is written (R203, R208). -/
def execJalr (rd rs : RegIdx) (s : State) : Result :=
  .next ((s.writeGpr rd s.linkValue).branchTo true (s.x rs))

/-- `BEQ` (R209). -/
def execBeq (rs rt : RegIdx) (offset : Half) (s : State) : Result :=
  .next (s.branchTo (s.x rs == s.x rt) (s.branchTarget offset))

/-- `BNE` (R210). -/
def execBne (rs rt : RegIdx) (offset : Half) (s : State) : Result :=
  .next (s.branchTo (s.x rs != s.x rt) (s.branchTarget offset))

/-- `BLEZ` (R211). -/
def execBlez (rs : RegIdx) (offset : Half) (s : State) : Result :=
  .next (s.branchTo (isLez (s.x rs)) (s.branchTarget offset))

/-- `BGTZ` (R212). -/
def execBgtz (rs : RegIdx) (offset : Half) (s : State) : Result :=
  .next (s.branchTo (isGtz (s.x rs)) (s.branchTarget offset))

/-- `BLTZ` (R213). -/
def execBltz (rs : RegIdx) (offset : Half) (s : State) : Result :=
  .next (s.branchTo (isLtz (s.x rs)) (s.branchTarget offset))

/-- `BGEZ` (R214). -/
def execBgez (rs : RegIdx) (offset : Half) (s : State) : Result :=
  .next (s.branchTo (isGez (s.x rs)) (s.branchTarget offset))

/-- `BLTZAL`: `$31` is written whether or not the branch is taken; the condition reads the old `$31` (R215). -/
def execBltzal (rs : RegIdx) (offset : Half) (s : State) : Result :=
  .next ((s.writeGpr 31#5 s.linkValue).branchTo (isLtz (s.x rs)) (s.branchTarget offset))

/-- `BGEZAL`: `$31` is written whether or not the branch is taken; the condition reads the old `$31` (R216). -/
def execBgezal (rs : RegIdx) (offset : Half) (s : State) : Result :=
  .next ((s.writeGpr 31#5 s.linkValue).branchTo (isGez (s.x rs)) (s.branchTarget offset))

end Sys2Proof.Machine
end

