-- ==== Sys2Proof/Machine/Cop0.lean ====
section
/-! DEFINITION. The System Control Coprocessor instructions (spec/47_cop0.md). None checks the mode or `SR.CU0` (R320; log 13). -/

namespace Sys2Proof.Machine

/-- `MFC0`: the value of the register, through the load delay; a number that names no register is a diagnostic no-op
(R250, R253). -/
def execMfc0 (rt rd : RegIdx) (s : State) : Result :=
  match cop0Reg? rd with
  | some r => .next (s.stageLoad rt (s.readCop0 r))
  | none => .next s.pulseDiag

/-- `MTC0`: the write the access policy allows, at once; a number that names no register is a diagnostic no-op (R252,
R253). -/
def execMtc0 (rt rd : RegIdx) (s : State) : Result :=
  match cop0Reg? rd with
  | some r => .next (s.writeCop0 r (s.x rt))
  | none => .next s.pulseDiag

/-- `RFE`: pop the privilege stack, in any mode (R256, R320). -/
def execRfe (s : State) : Result :=
  .next s.returnFromException

end Sys2Proof.Machine
end

