-- ==== Sys2Proof/Machine/Cop2.lean ====
section
/-! DEFINITION. The coprocessor 2 stubs and the unimplemented encodings (spec/49_cop2_and_unimplemented.md). A stub presents its operands
on the coprocessor 2 port and changes no state of the core (R270; log 14). -/

namespace Sys2Proof.Machine

/-- `MFC2`: present the word; `rt` is not written (R271). -/
def execMfc2 (_rt _rd : RegIdx) (s : State) : Result :=
  .next (s.presentCop2 none none)

/-- `CFC2`: present the word; `rt` is not written (R272). -/
def execCfc2 (_rt _rd : RegIdx) (s : State) : Result :=
  .next (s.presentCop2 none none)

/-- `MTC2`: present the word and `x[rt]` (R273). -/
def execMtc2 (rt _rd : RegIdx) (s : State) : Result :=
  .next (s.presentCop2 none (some (s.x rt)))

/-- `CTC2`: present the word and `x[rt]` (R274). -/
def execCtc2 (rt _rd : RegIdx) (s : State) : Result :=
  .next (s.presentCop2 none (some (s.x rt)))

/-- `COP2`: present the word, whose bits 24:0 are the command (R275). -/
def execCop2 (_command : BitVec 25) (s : State) : Result :=
  .next (s.presentCop2 none none)

/-- `LWC2`: present the word and the effective address; no bus read, no alignment check (R276). -/
def execLwc2 (_rt : RegIdx) (offset : Half) (base : RegIdx) (s : State) : Result :=
  .next (s.presentCop2 (some (s.effAddr base offset)) none)

/-- `SWC2`: present the word and the effective address; no bus write, no alignment check (R277). -/
def execSwc2 (_rt : RegIdx) (offset : Half) (base : RegIdx) (s : State) : Result :=
  .next (s.presentCop2 (some (s.effAddr base offset)) none)

/-- `UNIMPLEMENTED`: a diagnostic no-op, never a trap (R280; log 21). -/
def execUnimplemented (_word : Word) (s : State) : Result :=
  .next s.pulseDiag

end Sys2Proof.Machine
end

