-- ==== Sys2Proof/Machine/LoadStore.lean ====
section
/-! DEFINITION. Aligned loads and stores (spec/45_load_store.md). -/

namespace Sys2Proof.Machine

/-- `LB`: load byte, sign-extended (R224). -/
def execLb (rt : RegIdx) (offset : Half) (base : RegIdx) (s : State) : Result :=
  .next (s.loadByte sext8 rt (s.effAddr base offset))

/-- `LBU`: load byte, zero-extended (R225). -/
def execLbu (rt : RegIdx) (offset : Half) (base : RegIdx) (s : State) : Result :=
  .next (s.loadByte zext8 rt (s.effAddr base offset))

/-- `LH`: load halfword, sign-extended (R226). -/
def execLh (rt : RegIdx) (offset : Half) (base : RegIdx) (s : State) : Result :=
  .next (s.loadHalf sext16 rt (s.effAddr base offset))

/-- `LHU`: load halfword, zero-extended (R227). -/
def execLhu (rt : RegIdx) (offset : Half) (base : RegIdx) (s : State) : Result :=
  .next (s.loadHalf zext16 rt (s.effAddr base offset))

/-- `LW`: load word (R228). -/
def execLw (rt : RegIdx) (offset : Half) (base : RegIdx) (s : State) : Result :=
  .next (s.loadWord rt (s.effAddr base offset))

/-- `SB`: store the low byte of `x[rt]` (R229). -/
def execSb (rt : RegIdx) (offset : Half) (base : RegIdx) (s : State) : Result :=
  .next (s.write8 (s.effAddr base offset) ((s.x rt).extractLsb' 0 8))

/-- `SH`: store the low half of `x[rt]` (R230). -/
def execSh (rt : RegIdx) (offset : Half) (base : RegIdx) (s : State) : Result :=
  .next (s.storeHalf (s.effAddr base offset) (s.x rt))

/-- `SW`: store `x[rt]` (R231). -/
def execSw (rt : RegIdx) (offset : Half) (base : RegIdx) (s : State) : Result :=
  .next (s.storeWord (s.effAddr base offset) (s.x rt))

end Sys2Proof.Machine
end

