-- ==== Sys2Proof/Machine/MulDiv.lean ====
section
/-! DEFINITION. Multiply, divide and the `hi`/`lo` moves (spec/43_muldiv.md). Results stand in `hi` and `lo` when the step ends (R180). -/

namespace Sys2Proof.Machine

/-- Bits 63:32 of a 64-bit product (R181, R182). -/
def highHalf (p : BitVec 64) : Word := p.extractLsb' 32 32

/-- Bits 31:0 of a 64-bit product (R181, R182). -/
def lowHalf (p : BitVec 64) : Word := p.extractLsb' 0 32

/-- The exact signed product modulo 2^64 (R181). -/
def signedProduct (a b : Word) : BitVec 64 := BitVec.ofInt 64 (a.toInt * b.toInt)

/-- The exact unsigned product (R182). -/
def unsignedProduct (a b : Word) : BitVec 64 := BitVec.ofNat 64 (a.toNat * b.toNat)

/-- The quotient `DIV` leaves in `lo`: the fixed results by zero (R184) and of the most negative number by -1 (R185), else
the exact quotient truncated toward zero (R183). -/
def signedQuotient (n d : Word) : Word :=
  if d = 0#32 then (if n.msb then 0xFFFFFFFF#32 else 1#32)
  else if n = 0x80000000#32 ∧ d = 0xFFFFFFFF#32 then 0x80000000#32
  else BitVec.ofInt 32 (n.toInt.tdiv d.toInt)

/-- The remainder `DIV` leaves in `hi`: the dividend by zero (R184), 0 for the most negative number by -1 (R185), else
`n - q * d` (R183). -/
def signedRemainder (n d : Word) : Word :=
  if d = 0#32 then n
  else if n = 0x80000000#32 ∧ d = 0xFFFFFFFF#32 then 0#32
  else BitVec.ofInt 32 (n.toInt - n.toInt.tdiv d.toInt * d.toInt)

/-- The quotient `DIVU` leaves in `lo`: all ones by zero, else the floor (R186). -/
def unsignedQuotient (n d : Word) : Word :=
  if d = 0#32 then 0xFFFFFFFF#32 else BitVec.ofNat 32 (n.toNat / d.toNat)

/-- The remainder `DIVU` leaves in `hi`: the dividend by zero, else `n - lo * d` (R186). -/
def unsignedRemainder (n d : Word) : Word :=
  if d = 0#32 then n else BitVec.ofNat 32 (n.toNat - n.toNat / d.toNat * d.toNat)

/-- `MULT`: the signed product split across `hi` and `lo` (R181). -/
def execMult (rs rt : RegIdx) (s : State) : Result :=
  .next (s.writeHiLo (highHalf (signedProduct (s.x rs) (s.x rt))) (lowHalf (signedProduct (s.x rs) (s.x rt))))

/-- `MULTU`: the unsigned product split across `hi` and `lo` (R182). -/
def execMultu (rs rt : RegIdx) (s : State) : Result :=
  .next (s.writeHiLo (highHalf (unsignedProduct (s.x rs) (s.x rt))) (lowHalf (unsignedProduct (s.x rs) (s.x rt))))

/-- `DIV`: signed divide, never a trap (R183 to R185). -/
def execDiv (rs rt : RegIdx) (s : State) : Result :=
  .next (s.writeHiLo (signedRemainder (s.x rs) (s.x rt)) (signedQuotient (s.x rs) (s.x rt)))

/-- `DIVU`: unsigned divide, never a trap (R186). -/
def execDivu (rs rt : RegIdx) (s : State) : Result :=
  .next (s.writeHiLo (unsignedRemainder (s.x rs) (s.x rt)) (unsignedQuotient (s.x rs) (s.x rt)))

/-- `MFHI`: at once, no load delay (R180, R187). -/
def execMfhi (rd : RegIdx) (s : State) : Result :=
  .next (s.writeGpr rd s.hi)

/-- `MTHI`: `lo` unchanged (R188). -/
def execMthi (rs : RegIdx) (s : State) : Result :=
  .next (s.writeHiLo (s.x rs) s.lo)

/-- `MFLO`: at once, no load delay (R180, R189). -/
def execMflo (rd : RegIdx) (s : State) : Result :=
  .next (s.writeGpr rd s.lo)

/-- `MTLO`: `hi` unchanged (R190). -/
def execMtlo (rs : RegIdx) (s : State) : Result :=
  .next (s.writeHiLo s.hi (s.x rs))

end Sys2Proof.Machine
end

