-- ==== Sys2Proof/Machine/Shift.lean ====
section
/-! DEFINITION. Shifts (spec/42_shift.md). The value is `x[rt]`, the amount 0 to 31 (R170). -/

namespace Sys2Proof.Machine

/-- `SLL`: shift left, zeros enter at bit 0, by `sa` (R171). -/
def execSll (rd rt : RegIdx) (sa : BitVec 5) (s : State) : Result :=
  .next (s.writeGpr rd (s.x rt <<< sa.toNat))

/-- `SRL`: logical shift right, zeros enter at bit 31, by `sa` (R172). -/
def execSrl (rd rt : RegIdx) (sa : BitVec 5) (s : State) : Result :=
  .next (s.writeGpr rd (s.x rt >>> sa.toNat))

/-- `SRA`: arithmetic shift right, copies of bit 31 enter, by `sa` (R173). -/
def execSra (rd rt : RegIdx) (sa : BitVec 5) (s : State) : Result :=
  .next (s.writeGpr rd ((s.x rt).sshiftRight sa.toNat))

/-- `SLLV`: as `SLL`, by `x[rs][4:0]` (R170, R174). -/
def execSllv (rd rt rs : RegIdx) (s : State) : Result :=
  .next (s.writeGpr rd (s.x rt <<< (shiftAmount (s.x rs)).toNat))

/-- `SRLV`: as `SRL`, by `x[rs][4:0]` (R170, R175). -/
def execSrlv (rd rt rs : RegIdx) (s : State) : Result :=
  .next (s.writeGpr rd (s.x rt >>> (shiftAmount (s.x rs)).toNat))

/-- `SRAV`: as `SRA`, by `x[rs][4:0]` (R170, R176). -/
def execSrav (rd rt rs : RegIdx) (s : State) : Result :=
  .next (s.writeGpr rd ((s.x rt).sshiftRight (shiftAmount (s.x rs)).toNat))

end Sys2Proof.Machine
end

