-- ==== Sys2Proof/Machine/Trap.lean ====
section
/-! DEFINITION. The trap instructions (spec/48_system.md). -/

namespace Sys2Proof.Machine

/-- `SYSCALL`: it takes the `Syscall` exception; the code field is not interpreted (R265). -/
def execSyscall (_code : BitVec 20) (s : State) : Result :=
  .next (s.raise .syscall)

/-- `BREAK`: it takes the `BreakPoint` exception, at the debug-break vector; the code field is not interpreted (R266; log 12). -/
def execBrk (_code : BitVec 20) (s : State) : Result :=
  .next (s.raise .breakPoint)

end Sys2Proof.Machine
end

