-- ==== Sys2Proof/Machine/Unaligned.lean ====
section
/-! DEFINITION. Unaligned word loads and stores (spec/46_unaligned.md). `k` is `addr[1:0]`, `m` the memory word, `r` the register. -/

namespace Sys2Proof.Machine

/-- The merge of `LWL` (R242). -/
def mergeLwl (k : BitVec 2) (m r : Word) : Word :=
  match k with
  | 0#2 => (r &&& 0x00FFFFFF#32) ||| (m <<< 24)
  | 1#2 => (r &&& 0x0000FFFF#32) ||| (m <<< 16)
  | 2#2 => (r &&& 0x000000FF#32) ||| (m <<< 8)
  | 3#2 => m

/-- The merge of `LWR` (R243). -/
def mergeLwr (k : BitVec 2) (m r : Word) : Word :=
  match k with
  | 0#2 => m
  | 1#2 => (r &&& 0xFF000000#32) ||| (m >>> 8)
  | 2#2 => (r &&& 0xFFFF0000#32) ||| (m >>> 16)
  | 3#2 => (r &&& 0xFFFFFF00#32) ||| (m >>> 24)

/-- The merge of `SWL` (R244). -/
def mergeSwl (k : BitVec 2) (m r : Word) : Word :=
  match k with
  | 0#2 => (m &&& 0xFFFFFF00#32) ||| (r >>> 24)
  | 1#2 => (m &&& 0xFFFF0000#32) ||| (r >>> 16)
  | 2#2 => (m &&& 0xFF000000#32) ||| (r >>> 8)
  | 3#2 => r

/-- The merge of `SWR` (R245). -/
def mergeSwr (k : BitVec 2) (m r : Word) : Word :=
  match k with
  | 0#2 => r
  | 1#2 => (m &&& 0x000000FF#32) ||| (r <<< 8)
  | 2#2 => (m &&& 0x0000FFFF#32) ||| (r <<< 16)
  | 3#2 => (m &&& 0x00FFFFFF#32) ||| (r <<< 24)

/-- `LWL`: load word left, merged with `xpost[rt]` (R240, R242). -/
def execLwl (rt : RegIdx) (offset : Half) (base : RegIdx) (s : State) : Result :=
  .next (s.loadMerged mergeLwl rt (s.effAddr base offset))

/-- `LWR`: load word right, merged with `xpost[rt]` (R240, R243). -/
def execLwr (rt : RegIdx) (offset : Half) (base : RegIdx) (s : State) : Result :=
  .next (s.loadMerged mergeLwr rt (s.effAddr base offset))

/-- `SWL`: store word left, a read-modify-write of the aligned word (R240, R244). -/
def execSwl (rt : RegIdx) (offset : Half) (base : RegIdx) (s : State) : Result :=
  .next (s.storeMerged mergeSwl rt (s.effAddr base offset))

/-- `SWR`: store word right, a read-modify-write of the aligned word (R240, R245). -/
def execSwr (rt : RegIdx) (offset : Half) (base : RegIdx) (s : State) : Result :=
  .next (s.storeMerged mergeSwr rt (s.effAddr base offset))

end Sys2Proof.Machine
end

