-- ==== Sys2Proof/Machine/Step.lean ====
section
/-! DEFINITION. One dispatch step (spec/40_dispatch_and_delay.md R120), and how a word is placed where the step fetches. -/

namespace Sys2Proof.Machine

/-- One dispatch step: P1 and P2; P3, which may take an interrupt; P4, which may take a fetch address error; P5 and P6. -/
def step (s : State) : Host.Outcome State Fault Refusal :=
  if s.beginStep.interruptTaken then .next s.beginStep.takeInterrupt
  else if wordMisaligned s.beginStep.pc then .next s.beginStep.latchCurrentPc.fetchAddrError
  else exec (decodeWord s.beginStep.latchCurrentPc.fetchAdvance.instruction) s.beginStep.latchCurrentPc.fetchAdvance

/-- The state with the instruction word `w` (bits from `nbits` up dropped) in the four bytes at `pc`, where the next step
fetches; nothing else changes, except that a `pc` without storage gets storage (log 6). -/
def State.withFetchWord (s : State) (nbits w : Nat) : State :=
  { s.withStorage s.pc with mem := (s.withStorage s.pc).putWord s.pc (BitVec.ofNat 32 (w % 2 ^ nbits)) }

end Sys2Proof.Machine
end

