-- ==== Sys2Proof/Safety.lean ====
section
/-! DEFINITION. What counts as a good state, in the terms the claims use: the invariants of spec/10_state.md that every
dispatch step keeps, and the alignment the core guarantees to the bus (spec/20_memory.md R61). -/

namespace Sys2Proof.Machine

/-- The address is naturally aligned for the width of the operation (R61). -/
def BusOp.aligned (op : BusOp) : Bool :=
  match op.width with
  | .byte => true
  | .half => op.addr.toNat % 2 == 0
  | .word => op.addr.toNat % 4 == 0

/-- `gpr[0]` holds 0 (R21). -/
abbrev State.zeroRegisterInv (s : State) : Prop := s.gpr[0] = 0#32

/-- Memory is in its canonical form. -/
abbrev State.memoryInv (s : State) : Prop := s.mem.wf = true

/-- The old value of a pending load is the content of its register (R28). -/
abbrev State.pendingInv (s : State) : Prop := ∀ p ∈ s.pendingLoad, p.old = s.xpost p.index

/-- `next_pc = pc + 4` except when a jump or branch target has been latched (R23), and a target is latched only by a branch,
which marks the next instruction as a delay slot (R27, R201). -/
abbrev State.pcPairInv (s : State) : Prop :=
  (s.branchTaken = false → s.nextPc = s.pc + 4#32) ∧ (s.branchTaken = true → s.branchDelayActive = true)

/-- A delay slot follows its branch, which `current_pc` names, unless the branch stood itself in the slot of a taken branch
(R123, R200, R204). -/
abbrev State.slotInv (s : State) : Prop :=
  s.branchDelayActive = true → s.savedBranchTaken = false → s.pc = s.currentPc + 4#32

/-- Every bus operation of the step was naturally aligned (R61). -/
abbrev State.busInv (s : State) : Prop := s.bus.all BusOp.aligned = true

/-- The invariant of the machine: what every step keeps, and reset has. -/
abbrev State.Inv (s : State) : Prop :=
  s.zeroRegisterInv ∧ s.memoryInv ∧ s.pendingInv ∧ s.pcPairInv ∧ s.slotInv ∧ s.busInv

end Sys2Proof.Machine
end

