-- ==== Sys2Proof/Certificates/Slice0/Obligations.lean ====
section
/-! DEFINITION. The statements for the provers. The first part holds the words they are written in: what "writes one
register", "stages a load", "stores", "takes an exception" and "branches" mean, each with its frame. Values are said in the
spec's terms (integers, bytes, bit slices), not in the model's. -/

namespace Sys2Proof.Claims

open Sys2Proof.Machine

/-! ### Frames -/

/-- Every byte of storage reads as before. -/
def SameMemory (s t : State) : Prop := ∀ k : Nat, t.mem.read? k = s.mem.read? k

/-- The byte at storage address `k` is not behind any of the `n` bus addresses from `a` (log 3). -/
def NotBehind (a : Word) (n : Nat) (s : State) (k : Nat) : Prop :=
  ∀ j < n, (s.storageAt (a + BitVec.ofNat 32 j)).map BitVec.toNat ≠ some k

/-- Every byte of storage that is not behind one of the `n` bus addresses from `a` reads as before. -/
def SameMemoryOutside (a : Word) (n : Nat) (s t : State) : Prop :=
  ∀ k : Nat, NotBehind a n s k → t.mem.read? k = s.mem.read? k

/-- The instruction writes `v` to register `r` (nothing where `r` is register 0, R21) and changes nothing else. -/
structure WritesRegister (r : RegIdx) (v : Word) (s t : State) : Prop where
  value : t.xpost r = if r = 0#5 then 0#32 else v
  others : ∀ q, q ≠ r → t.xpost q = s.xpost q
  memory : SameMemory s t
  rest : t = { s with gpr := t.gpr }

/-- The instruction writes `hi` and `lo` and changes nothing else. -/
structure WritesHiLo (hi lo : Word) (s t : State) : Prop where
  hiValue : t.hi = hi
  loValue : t.lo = lo
  registers : ∀ q, t.xpost q = s.xpost q
  memory : SameMemory s t
  rest : t = { s with hi := t.hi, lo := t.lo }

/-- The instruction stages `v` for register `r` after the bus operations `ops`, and changes nothing else (the number of the
next free value apart, log 20). -/
structure Stages (r : RegIdx) (v : Word) (ops : List BusOp) (s t : State) : Prop where
  staged : t.pendingLoad = some ⟨r, s.xpost r, v⟩
  registers : ∀ q, t.xpost q = s.xpost q
  memory : SameMemory s t
  bus : t.bus = s.bus ++ ops
  rest : t = { s with pendingLoad := t.pendingLoad, bus := t.bus, freeCount := t.freeCount }

/-- The instruction issues the bus operations `ops`, puts the bytes `bytes` behind the bus addresses `a`, `a + 1`, … that have
storage, has no effect at those that have none (U6), and changes nothing else (the number of the next free value apart,
log 20). -/
structure Stores (a : Word) (bytes : List Byte) (ops : List BusOp) (s t : State) : Prop where
  stored : ∀ (j : Nat) (b : Byte), bytes[j]? = some b → ∀ p, s.storageAt (a + BitVec.ofNat 32 j) = some p →
    t.mem.read? p.toNat = some b
  outside : SameMemoryOutside a bytes.length s t
  registers : ∀ q, t.xpost q = s.xpost q
  bus : t.bus = s.bus ++ ops
  rest : t = { s with mem := t.mem, bus := t.bus, freeCount := t.freeCount }

/-- The bus answers `b` for the address `a`: the byte stored behind it; where none is, nothing is said (R62, U6; log 1,
log 2). -/
def Answers (s : State) (a : Word) (b : Byte) : Prop := ∀ c, s.byteAt? a = some c → b = c

/-- The state `t` is entered from `s` by an exception with code `code`, victim address `victim` and successor `successor`, to
the vector `normal` or, with `SR.BEV` = 1, `boot`, with `BadVAddr` left at `badVAddr` (R303, R42). In a delay slot EPC is the
branch, the instruction of the step before (R204, R353), and the victim's address rolled back by 4 (R47, R303 step 5); where
these differ it is one of them (log 23). Nothing else changes. -/
structure Enters (code : BitVec 5) (normal boot victim successor badVAddr : Word) (s t : State) : Prop where
  epc : t.epc =
    if s.savedBranchDelayActive then if Config.epcIsTheBranch then s.priorPc else victim - 4#32 else victim
  slotFollows : s.savedBranchDelayActive = true → victim = s.priorPc + 4#32 → t.epc = s.priorPc ∧ t.epc = victim - 4#32
  cause : t.causeWord =
    (if s.savedBranchDelayActive then 0x80000000#32 else 0#32) ||| (s.causeWord &&& 0x0000FF00#32) |||
      (code.setWidth 32 <<< 2)
  srOld : t.sr.extractLsb' 4 2 = s.sr.extractLsb' 2 2
  srPrevious : t.sr.extractLsb' 2 2 = s.sr.extractLsb' 0 2
  srCurrent : t.sr.extractLsb' 0 2 = 0#2
  srRest : t.sr.extractLsb' 6 26 = s.sr.extractLsb' 6 26
  jumpDest : t.jumpDest = if s.savedBranchDelayActive then successor else s.jumpDest
  pc : t.pc = if s.bev then boot else normal
  nextPc : t.nextPc = t.pc + 4#32
  bad : t.badVAddr = badVAddr
  registers : ∀ q, t.xpost q = s.xpost q
  memory : SameMemory s t
  rest : t = { s with
    epc := t.epc, cause := t.cause, sr := t.sr, jumpDest := t.jumpDest, pc := t.pc, nextPc := t.nextPc,
    badVAddr := t.badVAddr }

/-- An exception the instruction of the step raises to the general vector: victim `current_pc`, successor `pc`. -/
def Raises (code : BitVec 5) (badVAddr : Word) (s t : State) : Prop :=
  Enters code 0x80000080#32 0xBFC00180#32 s.currentPc s.pc badVAddr s t

/-- The instruction branches or jumps to `target` if `isTaken`; `link` is the register that gets the link value, if any. -/
structure Branches (isTaken : Bool) (target : Word) (link : Option RegIdx) (s t : State) : Prop where
  active : t.branchDelayActive = true
  taken : t.branchTaken = isTaken
  next : t.nextPc = if isTaken then target else s.nextPc
  pc : t.pc = s.pc
  registers : ∀ q, t.xpost q = if link = some q ∧ q ≠ 0#5 then s.currentPc + 8#32 else s.xpost q
  memory : SameMemory s t
  rest : t = { s with
    gpr := t.gpr, branchDelayActive := t.branchDelayActive, branchTaken := t.branchTaken, nextPc := t.nextPc }

/-- The instruction writes no register, no memory and nothing of the core: it drives the outputs only. -/
structure OnlyOutputs (diag : Option DiagPulse) (cop2 : Option Cop2Present) (s t : State) : Prop where
  diagPulse : t.diag = diag
  cop2Port : t.cop2 = cop2
  registers : ∀ q, t.xpost q = s.xpost q
  memory : SameMemory s t
  rest : t = { s with diag := t.diag, cop2 := t.cop2 }

/-! ### Values in the spec's terms -/

/-- The exact result is a signed 32-bit number (R140). -/
def Fits (r : Int) : Prop := -2 ^ 31 ≤ r ∧ r ≤ 2 ^ 31 - 1

/-- The target of a branch: the address of the delay slot plus four times the signed offset, modulo 2^32 (R200a). -/
def branchTo (s : State) (offset : Half) : Word := BitVec.ofInt 32 (s.currentPc.toNat + 4 + 4 * offset.toInt)

/-- The target of `J` and `JAL` (R200b). -/
def jumpTo (s : State) (target : BitVec 26) : Word :=
  ((s.currentPc + 4#32) &&& 0xF0000000#32) ||| (target.setWidth 32 <<< 2)

/-- Byte `j` of a register or memory word, bits 8j+7 : 8j (R241). -/
def byteOf (w : Word) (j : Nat) : Byte := BitVec.ofNat 8 (w.toNat / 2 ^ (8 * j))

/-- The word with the bytes `b3 b2 b1 b0`, `b3` the most significant (R241). -/
def ofBytes (b3 b2 b1 b0 : Byte) : Word :=
  BitVec.ofNat 32 (b3.toNat * 2 ^ 24 + b2.toNat * 2 ^ 16 + b1.toNat * 2 ^ 8 + b0.toNat)

/-! ### Steps -/

/-- The level of `ext_irq` the step of `s` samples (log 4). -/
def sampled (s : State) : BitVec 6 := s.irqFeed.headD (Config.extIrqLevel s.freeCount)

/-- The step of `s` takes an interrupt: `SR[0] == 1 and (SR[15:8] & CAUSE[15:8]) != 0` (R311). -/
def InterruptDue (s : State) : Prop :=
  s.sr.getLsbD 0 = true ∧ s.sr.extractLsb' 8 8 &&& (sampled s ++ s.cause.ip) ≠ 0#8

/-- Four bytes are stored behind the addresses from `pc` on and are the word `w`, `pc` is a multiple of 4, and no interrupt is due: the step of
`s` fetches `w` and executes it. -/
structure Fetches (w : Word) (s : State) : Prop where
  noInterrupt : ¬ InterruptDue s
  aligned : s.pc.toNat % 4 = 0
  bytes : ∀ j < 4, s.byteAt? (s.pc + BitVec.ofNat 32 j) = some (byteOf w j)

/-- The register file after the commit of the pending load (R125). -/
def committed (s : State) : Vector Word 32 :=
  match s.pendingLoad with
  | none => s.gpr
  | some p => if p.index = 0#5 then s.gpr else s.gpr.set p.index.toNat p.new p.index.isLt

/-- The register an instruction writes at once, if any (a load or `MFC0` only stages a write). -/
def destination : Instr → Option RegIdx
  | .sll rd .. | .srl rd .. | .sra rd .. | .sllv rd .. | .srlv rd .. | .srav rd .. | .jalr rd .. | .mfhi rd | .mflo rd
  | .add rd .. | .addu rd .. | .sub rd .. | .subu rd .. | .and rd .. | .or rd .. | .xor rd .. | .nor rd .. | .slt rd ..
  | .sltu rd .. => some rd
  | .addi rt .. | .addiu rt .. | .slti rt .. | .sltiu rt .. | .andi rt .. | .ori rt .. | .xori rt .. | .lui rt .. => some rt
  | .jal .. | .bltzal .. | .bgezal .. => some 31#5
  | .jr .. | .syscall .. | .brk .. | .mthi .. | .mtlo .. | .mult .. | .multu .. | .div .. | .divu .. | .bltz ..
  | .bgez .. | .j .. | .beq .. | .bne .. | .blez .. | .bgtz .. | .mfc0 .. | .mtc0 .. | .rfe | .mfc2 .. | .cfc2 ..
  | .mtc2 .. | .ctc2 .. | .cop2 .. | .lb .. | .lh .. | .lwl .. | .lw .. | .lbu .. | .lhu .. | .lwr .. | .sb ..
  | .sh .. | .swl .. | .sw .. | .swr .. | .lwc2 .. | .swc2 .. | .unimplemented .. => none

/-- The register a load or `MFC0` stages a write for, if the instruction is one. -/
def stagedRegister : Instr → Option RegIdx
  | .lb rt .. | .lbu rt .. | .lh rt .. | .lhu rt .. | .lw rt .. | .lwl rt .. | .lwr rt .. | .mfc0 rt .. => some rt
  | .sll .. | .srl .. | .sra .. | .sllv .. | .srlv .. | .srav .. | .jalr .. | .mfhi .. | .mflo .. | .add .. | .addu ..
  | .sub .. | .subu .. | .and .. | .or .. | .xor .. | .nor .. | .slt .. | .sltu .. | .addi .. | .addiu .. | .slti ..
  | .sltiu .. | .andi .. | .ori .. | .xori .. | .lui .. | .jal .. | .bltzal .. | .bgezal .. | .jr .. | .syscall ..
  | .brk .. | .mthi .. | .mtlo .. | .mult .. | .multu .. | .div .. | .divu .. | .bltz .. | .bgez .. | .j .. | .beq ..
  | .bne .. | .blez .. | .bgtz .. | .mtc0 .. | .rfe | .mfc2 .. | .cfc2 .. | .mtc2 .. | .ctc2 .. | .cop2 .. | .sb ..
  | .sh .. | .swl .. | .sw .. | .swr .. | .lwc2 .. | .swc2 .. | .unimplemented .. => none

/-- The step of `s`, whose instruction stands in a branch delay slot, enters an exception with code `code`: where the slot
follows its branch, which the step before executed (`current_pc`), `EPC` is the branch and 4 below `pc`, elsewhere it is one
of the two (log 23); `CAUSE.BD` is set, `JUMPDEST` is the latched `next_pc`, and the registers are those after the commit (R204, R303). -/
structure EntersInSlot (code : BitVec 5) (normal boot badVAddr : Word) (s t : State) : Prop where
  epc : t.epc = if Config.epcIsTheBranch then s.currentPc else s.pc - 4#32
  slotFollows : s.pc = s.currentPc + 4#32 → t.epc = s.currentPc ∧ t.epc = s.pc - 4#32
  branchDelay : t.causeWord.getLsbD 31 = true
  excCode : t.causeWord.extractLsb' 2 5 = code
  jumpDest : t.jumpDest = s.nextPc
  pc : t.pc = if s.bev then boot else normal
  nextPc : t.nextPc = t.pc + 4#32
  bad : t.badVAddr = badVAddr
  registers : t.gpr = committed s
  noPending : t.pendingLoad = none
  memory : SameMemory s t

/-- Unless an interrupt is due, the step of `t` fetches a word whose byte `j` is `bytes j`, where that is given. -/
def NextFetchHas (bytes : Nat → Option Byte) (t : State) : Prop :=
  ¬ InterruptDue t → ∃ u, step t = .next u ∧ ∀ j < 4, ∀ b, bytes j = some b → byteOf u.instruction j = b

/-! ### The opcode table -/

/-- A row of spec/opcode_table.json: a word is the row's when `word & mask == value`. -/
structure TableRow where
  mnemonic : String
  mask : Word
  value : Word

/-- Rows 1 to 17 of spec/opcode_table.json. -/
def tableRows0 : List TableRow :=
  [⟨"SLL", 0xFC00003F#32, 0x00000000#32⟩,
   ⟨"SRL", 0xFC00003F#32, 0x00000002#32⟩,
   ⟨"SRA", 0xFC00003F#32, 0x00000003#32⟩,
   ⟨"SLLV", 0xFC00003F#32, 0x00000004#32⟩,
   ⟨"SRLV", 0xFC00003F#32, 0x00000006#32⟩,
   ⟨"SRAV", 0xFC00003F#32, 0x00000007#32⟩,
   ⟨"JR", 0xFC00003F#32, 0x00000008#32⟩,
   ⟨"JALR", 0xFC00003F#32, 0x00000009#32⟩,
   ⟨"SYSCALL", 0xFC00003F#32, 0x0000000C#32⟩,
   ⟨"BREAK", 0xFC00003F#32, 0x0000000D#32⟩,
   ⟨"MFHI", 0xFC00003F#32, 0x00000010#32⟩,
   ⟨"MTHI", 0xFC00003F#32, 0x00000011#32⟩,
   ⟨"MFLO", 0xFC00003F#32, 0x00000012#32⟩,
   ⟨"MTLO", 0xFC00003F#32, 0x00000013#32⟩,
   ⟨"MULT", 0xFC00003F#32, 0x00000018#32⟩,
   ⟨"MULTU", 0xFC00003F#32, 0x00000019#32⟩,
   ⟨"DIV", 0xFC00003F#32, 0x0000001A#32⟩]

/-- Rows 18 to 34 of spec/opcode_table.json. -/
def tableRows1 : List TableRow :=
  [⟨"DIVU", 0xFC00003F#32, 0x0000001B#32⟩,
   ⟨"ADD", 0xFC00003F#32, 0x00000020#32⟩,
   ⟨"ADDU", 0xFC00003F#32, 0x00000021#32⟩,
   ⟨"SUB", 0xFC00003F#32, 0x00000022#32⟩,
   ⟨"SUBU", 0xFC00003F#32, 0x00000023#32⟩,
   ⟨"AND", 0xFC00003F#32, 0x00000024#32⟩,
   ⟨"OR", 0xFC00003F#32, 0x00000025#32⟩,
   ⟨"XOR", 0xFC00003F#32, 0x00000026#32⟩,
   ⟨"NOR", 0xFC00003F#32, 0x00000027#32⟩,
   ⟨"SLT", 0xFC00003F#32, 0x0000002A#32⟩,
   ⟨"SLTU", 0xFC00003F#32, 0x0000002B#32⟩,
   ⟨"BLTZAL", 0xFC1F0000#32, 0x04100000#32⟩,
   ⟨"BGEZAL", 0xFC1F0000#32, 0x04110000#32⟩,
   ⟨"BLTZ", 0xFC010000#32, 0x04000000#32⟩,
   ⟨"BGEZ", 0xFC010000#32, 0x04010000#32⟩,
   ⟨"J", 0xFC000000#32, 0x08000000#32⟩,
   ⟨"JAL", 0xFC000000#32, 0x0C000000#32⟩]

/-- Rows 35 to 51 of spec/opcode_table.json. -/
def tableRows2 : List TableRow :=
  [⟨"BEQ", 0xFC000000#32, 0x10000000#32⟩,
   ⟨"BNE", 0xFC000000#32, 0x14000000#32⟩,
   ⟨"BLEZ", 0xFC000000#32, 0x18000000#32⟩,
   ⟨"BGTZ", 0xFC000000#32, 0x1C000000#32⟩,
   ⟨"ADDI", 0xFC000000#32, 0x20000000#32⟩,
   ⟨"ADDIU", 0xFC000000#32, 0x24000000#32⟩,
   ⟨"SLTI", 0xFC000000#32, 0x28000000#32⟩,
   ⟨"SLTIU", 0xFC000000#32, 0x2C000000#32⟩,
   ⟨"ANDI", 0xFC000000#32, 0x30000000#32⟩,
   ⟨"ORI", 0xFC000000#32, 0x34000000#32⟩,
   ⟨"XORI", 0xFC000000#32, 0x38000000#32⟩,
   ⟨"LUI", 0xFC000000#32, 0x3C000000#32⟩,
   ⟨"MFC0", 0xFFE00000#32, 0x40000000#32⟩,
   ⟨"MTC0", 0xFFE00000#32, 0x40800000#32⟩,
   ⟨"RFE", 0xFFE0003F#32, 0x42000010#32⟩,
   ⟨"MFC2", 0xFFE00000#32, 0x48000000#32⟩,
   ⟨"CFC2", 0xFFE00000#32, 0x48400000#32⟩]

/-- Rows 52 to 68 of spec/opcode_table.json. -/
def tableRows3 : List TableRow :=
  [⟨"MTC2", 0xFFE00000#32, 0x48800000#32⟩,
   ⟨"CTC2", 0xFFE00000#32, 0x48C00000#32⟩,
   ⟨"COP2", 0xFE000000#32, 0x4A000000#32⟩,
   ⟨"LB", 0xFC000000#32, 0x80000000#32⟩,
   ⟨"LH", 0xFC000000#32, 0x84000000#32⟩,
   ⟨"LWL", 0xFC000000#32, 0x88000000#32⟩,
   ⟨"LW", 0xFC000000#32, 0x8C000000#32⟩,
   ⟨"LBU", 0xFC000000#32, 0x90000000#32⟩,
   ⟨"LHU", 0xFC000000#32, 0x94000000#32⟩,
   ⟨"LWR", 0xFC000000#32, 0x98000000#32⟩,
   ⟨"SB", 0xFC000000#32, 0xA0000000#32⟩,
   ⟨"SH", 0xFC000000#32, 0xA4000000#32⟩,
   ⟨"SWL", 0xFC000000#32, 0xA8000000#32⟩,
   ⟨"SW", 0xFC000000#32, 0xAC000000#32⟩,
   ⟨"SWR", 0xFC000000#32, 0xB8000000#32⟩,
   ⟨"LWC2", 0xFC000000#32, 0xC8000000#32⟩,
   ⟨"SWC2", 0xFC000000#32, 0xE8000000#32⟩]

/-- The rows in priority order. -/
def tableRows : List TableRow := tableRows0 ++ tableRows1 ++ tableRows2 ++ tableRows3

/-- The mnemonic of the first row that matches, `UNIMPLEMENTED` where none does. -/
def firstMatch (w : Word) : String :=
  match tableRows.find? (fun r => w &&& r.mask == r.value) with
  | some r => r.mnemonic
  | none => "UNIMPLEMENTED"

end Sys2Proof.Claims

open Sys2Proof Sys2Proof.Machine Sys2Proof.Claims

/-- Words of the spec's examples decode to their instructions (the encoding lines of R141 to R277). -/
def Obligations.DecodeWordsFromTheEncodings : Prop :=
  decodeWord 0x00221820#32 = .add 3 1 2 ∧ decodeWord 0x2022FFFF#32 = .addi 2 1 0xFFFF ∧
  decodeWord 0x00011100#32 = .sll 2 1 4 ∧ decodeWord 0x00411807#32 = .srav 3 1 2 ∧
  decodeWord 0x0022001A#32 = .div 1 2 ∧ decodeWord 0x00001810#32 = .mfhi 3 ∧
  decodeWord 0x0C000400#32 = .jal 0x400 ∧ decodeWord 0x0040F809#32 = .jalr 31 2 ∧
  decodeWord 0x04320002#32 = .bltz 1 2 ∧ decodeWord 0x04310002#32 = .bgezal 1 2 ∧
  decodeWord 0x8FA80000#32 = .lw 8 0 29 ∧ decodeWord 0xAFA2FFFC#32 = .sw 2 0xFFFC 29 ∧
  decodeWord 0x88220003#32 = .lwl 2 3 1 ∧ decodeWord 0x401A7000#32 = .mfc0 26 14 ∧
  decodeWord 0x421FFFD0#32 = .rfe ∧ decodeWord 0x0007000D#32 = .brk 0x1C00 ∧
  decodeWord 0x4A180001#32 = .cop2 0x0180001 ∧ decodeWord 0x42000001#32 = .unimplemented 0x42000001#32

/-- The round trip, on words and on bytes (R90 to R99, R107). -/
def Obligations.DecodeOfEncodeIsTheInstruction : Prop :=
  ∀ i : Instr, i.wellFormed = true →
    decodeWord (encode i) = i ∧ ∀ rest : List Byte, decode (encodeBytes i ++ rest) = .ok (i, rest)

/-- The decoder against the 68 rows of spec/opcode_table.json in priority order (R95 to R99). -/
def Obligations.DecodeFollowsTheOpcodeTable : Prop :=
  ∀ w : Word, (decodeWord w).mnemonic = firstMatch w

/-- R102: the list of unimplemented encodings, that they do not trap, and that no encoding raises a reserved-instruction exception. -/
def Obligations.UnimplementedWordsAreThoseOfR102 : Prop :=
  (∀ w : Word, (∃ v, decodeWord w = .unimplemented v) ↔ isUnimplemented w = true) ∧
  (∀ w : Word, isUnimplemented w = true → decodeWord w = .unimplemented w) ∧
  (∀ w : Word, (decodeWord w).wellFormed = true) ∧
  (∀ (w : Word) (s : State), ∃ t, exec (.unimplemented w) s = .next t ∧
    OnlyOutputs (some ⟨s.instruction, s.currentPc⟩) s.cop2 s t) ∧
  (∀ (i : Instr) (s t : State), exec i s = .next t → t.cause.excCode = 10#5 → s.cause.excCode = 10#5)

/-- R107, which the spec marks as supplied from general knowledge: the encoding formulas. -/
def Obligations.EncodeFollowsTheFormulas : Prop :=
  (∀ (rs rt rd sa : BitVec 5) (funct : BitVec 6), rWord rs rt rd sa funct =
    (rs.setWidth 32 <<< 21) ||| (rt.setWidth 32 <<< 16) ||| (rd.setWidth 32 <<< 11) ||| (sa.setWidth 32 <<< 6) |||
      funct.setWidth 32) ∧
  (∀ (op : BitVec 6) (rs rt : BitVec 5) (imm : Half), iWord op rs rt imm =
    (op.setWidth 32 <<< 26) ||| (rs.setWidth 32 <<< 21) ||| (rt.setWidth 32 <<< 16) ||| imm.setWidth 32) ∧
  (∀ (op : BitVec 6) (target : BitVec 26), jWord op target = (op.setWidth 32 <<< 26) ||| target.setWidth 32) ∧
  (∀ rt rd : RegIdx, encode (.mfc0 rt rd) = 0x40000000#32 ||| (rt.setWidth 32 <<< 16) ||| (rd.setWidth 32 <<< 11)) ∧
  (∀ rt rd : RegIdx, encode (.mtc0 rt rd) = 0x40800000#32 ||| (rt.setWidth 32 <<< 16) ||| (rd.setWidth 32 <<< 11)) ∧
  (∀ code : BitVec 20, encode (.syscall code) = (code.setWidth 32 <<< 6) ||| 0x0C#32) ∧
  (∀ code : BitVec 20, encode (.brk code) = (code.setWidth 32 <<< 6) ||| 0x0D#32) ∧
  encode .rfe = 0x42000010#32 ∧ encode (.sll 0 0 0) = 0x00000000#32

/-- R101, an inference the spec marks as its own (D9): the examples of ignored fields, at every value. -/
def Obligations.IgnoredBitsDoNotChangeTheInstruction : Prop :=
  ∀ (rs rt rd sa : BitVec 5) (imm : Half) (low : BitVec 11) (mid : BitVec 15),
    decodeWord (rWord rs rt rd sa 0x20) = .add rd rs rt ∧ decodeWord (rWord rs rt rd sa 0x00) = .sll rd rt sa ∧
    decodeWord (rWord rs rt rd sa 0x08) = .jr rs ∧ decodeWord (rWord rs rt rd sa 0x18) = .mult rs rt ∧
    decodeWord (rWord rs rt rd sa 0x10) = .mfhi rd ∧ decodeWord (iWord 0x0F rs rt imm) = .lui rt imm ∧
    decodeWord (iWord 0x06 rs rt imm) = .blez rs imm ∧ decodeWord (iWord 0x07 rs rt imm) = .bgtz rs imm ∧
    decodeWord (0x10#6 ++ 0x00#5 ++ rt ++ rd ++ low) = .mfc0 rt rd ∧
    decodeWord (0x10#6 ++ 0x10#5 ++ mid ++ 0x10#6) = .rfe

/-- R21: the contract of the register file, for immediate, staged and link writes. -/
def Obligations.RegisterZeroIsHardwired : Prop :=
  (∀ s : State, s.x 0#5 = 0#32 ∧ s.xpost 0#5 = 0#32) ∧
  (∀ (s : State) (v : Word), s.writeGpr 0#5 v = s) ∧
  (∀ (s : State) (i j : RegIdx) (v : Word), i ≠ 0#5 →
    (s.writeGpr i v).xpost j = if j = i then v else s.xpost j) ∧
  (∀ (s : State) (old new : Word), s.pendingLoad = some ⟨0#5, old, new⟩ → s.phase2.gpr = s.gpr) ∧
  (∀ (s : State) (rs : RegIdx), ∃ t, exec (.jalr 0#5 rs) s = .next t ∧ t.gpr = s.gpr)

/-- R341 and R340. The rows the spec marks with its decision D29 rest on that decision (log 10). -/
def Obligations.ResetValues : Prop :=
  ∀ s : State,
    (∀ r, s.resetCore.xpost r = 0#32) ∧ s.resetCore.gpr[0] = 0#32 ∧
    s.resetCore.pc = 0xBFC00000#32 ∧ s.resetCore.nextPc = 0xBFC00004#32 ∧ s.resetCore.currentPc = 0xBFC00000#32 ∧
    s.resetCore.hi = 0#32 ∧ s.resetCore.lo = 0#32 ∧ s.resetCore.instruction = 0#32 ∧
    s.resetCore.branchDelayActive = false ∧ s.resetCore.branchTaken = false ∧
    s.resetCore.savedBranchDelayActive = false ∧ s.resetCore.savedBranchTaken = false ∧
    s.resetCore.pendingLoad = none ∧ s.resetCore.sr = 0x00400000#32 ∧
    s.resetCore.cause = ⟨false, 0#2, 0#5⟩ ∧ s.resetCore.epc = 0#32 ∧ s.resetCore.badVAddr = 0#32 ∧
    s.resetCore.jumpDest = 0#32 ∧ s.resetCore.bpc = 0#32 ∧ s.resetCore.bda = 0#32 ∧ s.resetCore.dcic = 0#32 ∧
    s.resetCore.bdam = 0#32 ∧ s.resetCore.bpcm = 0#32 ∧ s.resetCore.prid = s.prid ∧ SameMemory s s.resetCore ∧
    s.resetCore.busMap = s.busMap ∧
    State.reset.prid = 0x00000002#32 ∧ State.reset.resetCore = State.reset

/-- The invariant (Safety.lean) at reset. -/
def Obligations.InvariantHoldsAtReset : Prop :=
  State.reset.Inv

/-- Preservation of the invariant (R21, R23, R27, R28, R61, R200) by every step. -/
def Obligations.StepKeepsTheInvariant : Prop :=
  ∀ s t : State, s.Inv → step s = .next t → t.Inv

/-- R120, phases P1 to P6 of a step that reaches P6 (the order is the spec's decision D2). The outputs and the numbering of free values are the model's representation (log 7, log 20). -/
def Obligations.StepRunsTheDecodedInstruction : Prop :=
  ∀ (s : State) (b0 b1 b2 b3 : Byte) (i : Instr), ¬ InterruptDue s → s.pc.toNat % 4 = 0 →
    s.byteAt? s.pc = some b0 → s.byteAt? (s.pc + 1#32) = some b1 →
    s.byteAt? (s.pc + 2#32) = some b2 → s.byteAt? (s.pc + 3#32) = some b3 →
    decode [b0, b1, b2, b3] = .ok (i, []) →
    step s = exec i { s with
      savedBranchDelayActive := s.branchDelayActive, savedBranchTaken := s.branchTaken,
      branchDelayActive := false, branchTaken := false, priorPc := s.currentPc,
      operandView := s.gpr, gpr := committed s, pendingLoad := none,
      extIrq := sampled s, irqFeed := s.irqFeed.tail,
      currentPc := s.pc, instruction := ofBytes b3 b2 b1 b0, pc := s.nextPc, nextPc := s.nextPc + 4#32,
      bus := [⟨.read, .word, s.pc, ofBytes b3 b2 b1 b0⟩], diag := none, cop2 := none,
      freeCount := s.freeCount + 2 }

/-- R361: every dispatch step terminates; the core never halts, never waits and never refuses a word. -/
def Obligations.EveryStepAnswersANextState : Prop :=
  (∀ s : State, ∃ t, step s = .next t) ∧ ∀ (n : Nat) (s : State), ∃ t, Host.Core.run Sys2Proof.core n s = .next t

/-- R124 and R126(a); the collision rule is the spec's decision D6. -/
def Obligations.LoadDelayShowsTheOldValue : Prop :=
  ∀ (s : State) (p : PendingLoad) (rd rs rt : RegIdx), s.pendingLoad = some p → Fetches (encode (.addu rd rs rt)) s →
    ∃ t, step s = .next t ∧ t.pendingLoad = none ∧
      (rd ≠ 0#5 → t.xpost rd = BitVec.ofNat 32 ((s.xpost rs).toNat + (s.xpost rt).toNat)) ∧
      (p.index ≠ 0#5 → p.index ≠ rd → t.xpost p.index = p.new) ∧
      (∀ q, q ≠ rd → q ≠ p.index → t.xpost q = s.xpost q)

/-- R124, R131 (second table) and R351 as three steps. -/
def Obligations.LoadThenReaderTimeline : Prop :=
  ∀ (s : State) (r a b base : RegIdx) (offset : Half) (b0 b1 b2 b3 : Byte),
    r ≠ 0#5 → a ≠ 0#5 → b ≠ 0#5 → r ≠ a → r ≠ b → a ≠ b → s.pendingLoad = none → s.iec = false →
    s.nextPc = s.pc + 4#32 → Fetches (encode (.lw r offset base)) s →
    (∀ j < 4, s.byteAt? (s.pc + 4#32 + BitVec.ofNat 32 j) = some (byteOf (encode (.addu a r 0)) j)) →
    (∀ j < 4, s.byteAt? (s.pc + 8#32 + BitVec.ofNat 32 j) = some (byteOf (encode (.addu b r 0)) j)) →
    (s.xpost base + sext16 offset).toNat % 4 = 0 →
    s.byteAt? (s.xpost base + sext16 offset) = some b0 →
    s.byteAt? (s.xpost base + sext16 offset + 1#32) = some b1 →
    s.byteAt? (s.xpost base + sext16 offset + 2#32) = some b2 →
    s.byteAt? (s.xpost base + sext16 offset + 3#32) = some b3 →
    ∃ t, Host.Core.run Sys2Proof.core 3 s = .next t ∧ t.xpost a = s.xpost r ∧ t.xpost b = ofBytes b3 b2 b1 b0 ∧
      t.xpost r = ofBytes b3 b2 b1 b0 ∧ t.pendingLoad = none

/-- R125, with the spec's decision D37: the commit happens in every step. -/
def Obligations.StagedLoadIsNeverCancelled : Prop :=
  (∀ (s t : State) (p : PendingLoad), s.pendingLoad = some p → p.index ≠ 0#5 → step s = .next t →
    t.xpost p.index = p.new ∨
      (¬ InterruptDue s ∧ s.pc.toNat % 4 = 0 ∧ destination (decodeWord t.instruction) = some p.index)) ∧
  (∀ s t : State, step s = .next t →
    t.pendingLoad = none ∨
      (¬ InterruptDue s ∧ s.pc.toNat % 4 = 0 ∧
        ∃ q, t.pendingLoad = some q ∧ stagedRegister (decodeWord t.instruction) = some q.index))

/-- R311 and R312, which the spec marks as its decisions D19 and D20. -/
def Obligations.InterruptIsTakenBeforeTheFetch : Prop :=
  ∀ s : State, InterruptDue s → ∃ t, step s = .next t ∧
    Enters 0#5 0x80000080#32 0xBFC00180#32 s.pc s.nextPc s.badVAddr
      { s with
        savedBranchDelayActive := s.branchDelayActive, savedBranchTaken := s.branchTaken,
        branchDelayActive := false, branchTaken := false, priorPc := s.currentPc, operandView := s.gpr,
        gpr := committed s,
        pendingLoad := none, extIrq := sampled s, irqFeed := s.irqFeed.tail, bus := [], diag := none, cop2 := none,
        freeCount := s.freeCount + 1 } t

/-- R67, which the spec marks as its decision D17. -/
def Obligations.MisalignedFetchRaisesLoadAddrError : Prop :=
  ∀ s : State, ¬ InterruptDue s → s.pc.toNat % 4 ≠ 0 → ∃ t, step s = .next t ∧
    Enters 4#5 0x80000080#32 0xBFC00180#32 s.pc s.nextPc s.pc
      { s with
        savedBranchDelayActive := s.branchDelayActive, savedBranchTaken := s.branchTaken,
        branchDelayActive := false, branchTaken := false, priorPc := s.currentPc, operandView := s.gpr,
        gpr := committed s,
        pendingLoad := none, extIrq := sampled s, irqFeed := s.irqFeed.tail, currentPc := s.pc,
        bus := [], diag := none, cop2 := none, freeCount := s.freeCount + 1 } t

/-- R303, steps 1 to 6, with R204 and R353 for EPC in a delay slot (log 23); next_pc and the value of JUMPDEST are the spec's decisions D3 and D36. -/
def Obligations.ExceptionEntryWritesWhatR303Says : Prop :=
  ∀ (c : ExcCause) (victim successor : Word) (s : State),
    Enters c.code (if c = .breakPoint then 0x80000040#32 else 0x80000080#32)
      (if c = .breakPoint then 0xBFC00140#32 else 0xBFC00180#32) victim successor s.badVAddr s
      (s.enterException c victim successor)

/-- R304: the four vectors, for every cause, state, victim and successor. -/
def Obligations.VectorsAreSelectedByBEV : Prop :=
  ∀ (c : ExcCause) (victim successor : Word) (s : State),
    (s.sr.getLsbD 22 = false → c ≠ .breakPoint → (s.enterException c victim successor).pc = 0x80000080#32) ∧
    (s.sr.getLsbD 22 = true → c ≠ .breakPoint → (s.enterException c victim successor).pc = 0xBFC00180#32) ∧
    (s.sr.getLsbD 22 = false → c = .breakPoint → (s.enterException c victim successor).pc = 0x80000040#32) ∧
    (s.sr.getLsbD 22 = true → c = .breakPoint → (s.enterException c victim successor).pc = 0xBFC00140#32) ∧
    (s.enterException c victim successor).sr.getLsbD 22 = s.sr.getLsbD 22

/-- R44: push, pop and direct write of SR[5:0], through the instructions that do them. -/
def Obligations.PrivilegeStackPushesAndPops : Prop :=
  (∀ (i : Instr) (s : State), (∃ code, i = .syscall code ∨ i = .brk code) → ∃ t, exec i s = .next t ∧
    t.sr.extractLsb' 4 2 = s.sr.extractLsb' 2 2 ∧ t.sr.extractLsb' 2 2 = s.sr.extractLsb' 0 2 ∧
    t.sr.extractLsb' 0 2 = 0#2 ∧ t.sr.extractLsb' 6 26 = s.sr.extractLsb' 6 26) ∧
  (∀ (c : ExcCause) (v n : Word) (s : State),
    (s.enterException c v n).sr.extractLsb' 4 2 = s.sr.extractLsb' 2 2 ∧
    (s.enterException c v n).sr.extractLsb' 2 2 = s.sr.extractLsb' 0 2 ∧
    (s.enterException c v n).sr.extractLsb' 0 2 = 0#2 ∧
    (s.enterException c v n).sr.extractLsb' 6 26 = s.sr.extractLsb' 6 26) ∧
  (∀ s : State, ∃ t, exec .rfe s = .next t ∧
    t.sr.extractLsb' 0 2 = s.sr.extractLsb' 2 2 ∧ t.sr.extractLsb' 2 2 = s.sr.extractLsb' 4 2 ∧
    t.sr.extractLsb' 4 2 = s.sr.extractLsb' 4 2 ∧ t.sr.extractLsb' 6 26 = s.sr.extractLsb' 6 26) ∧
  (∀ (rt : RegIdx) (s : State), ∃ t, exec (.mtc0 rt 12#5) s = .next t ∧
    t.sr.extractLsb' 0 6 = (s.x rt).extractLsb' 0 6)

/-- R318, which the spec derives from R303 and R256. -/
def Obligations.RfeUndoesATrap : Prop :=
  ∀ (c : ExcCause) (victim successor : Word) (s : State),
    (s.enterException c victim successor).iec = false ∧ (s.enterException c victim successor).kuc = false ∧
    ∃ t, exec .rfe (s.enterException c victim successor) = .next t ∧
      t.sr.extractLsb' 0 4 = s.sr.extractLsb' 0 4 ∧ t.sr.extractLsb' 4 2 = s.sr.extractLsb' 2 2 ∧
      t.sr.extractLsb' 6 26 = s.sr.extractLsb' 6 26

/-- R265. -/
def Obligations.SyscallTakesItsException : Prop :=
  ∀ (code : BitVec 20) (s : State), ∃ t, exec (.syscall code) s = .next t ∧ Raises 8#5 s.badVAddr s t

/-- R266, with the spec's decision D18 (log 12). -/
def Obligations.BreakTakesItsExceptionAtTheDebugVector : Prop :=
  ∀ (code : BitVec 20) (s : State), ∃ t, exec (.brk code) s = .next t ∧
    Enters 9#5 0x80000040#32 0xBFC00140#32 s.currentPc s.pc s.badVAddr s t

/-- R204, R306: every exception and the delay slot, as one step. -/
def Obligations.ExceptionInADelaySlotPointsAtTheBranch : Prop :=
  ∀ s : State, s.branchDelayActive = true →
    (InterruptDue s → ∃ t, step s = .next t ∧ EntersInSlot 0#5 0x80000080#32 0xBFC00180#32 s.badVAddr s t) ∧
    (¬ InterruptDue s → s.pc.toNat % 4 ≠ 0 → ∃ t, step s = .next t ∧
      EntersInSlot 4#5 0x80000080#32 0xBFC00180#32 s.pc s t) ∧
    (∀ code : BitVec 20, Fetches (encode (.syscall code)) s → ∃ t, step s = .next t ∧
      EntersInSlot 8#5 0x80000080#32 0xBFC00180#32 s.badVAddr s t) ∧
    (∀ code : BitVec 20, Fetches (encode (.brk code)) s → ∃ t, step s = .next t ∧
      EntersInSlot 9#5 0x80000040#32 0xBFC00140#32 s.badVAddr s t) ∧
    (∀ rd rs rt : RegIdx, Fetches (encode (.add rd rs rt)) s → ¬ Fits ((s.xpost rs).toInt + (s.xpost rt).toInt) →
      ∃ t, step s = .next t ∧ EntersInSlot 12#5 0x80000080#32 0xBFC00180#32 s.badVAddr s t) ∧
    (∀ rd rs rt : RegIdx, Fetches (encode (.sub rd rs rt)) s → ¬ Fits ((s.xpost rs).toInt - (s.xpost rt).toInt) →
      ∃ t, step s = .next t ∧ EntersInSlot 12#5 0x80000080#32 0xBFC00180#32 s.badVAddr s t) ∧
    (∀ (rt rs : RegIdx) (imm : Half), Fetches (encode (.addi rt rs imm)) s → ¬ Fits ((s.xpost rs).toInt + imm.toInt) →
      ∃ t, step s = .next t ∧ EntersInSlot 12#5 0x80000080#32 0xBFC00180#32 s.badVAddr s t) ∧
    (∀ (rt base : RegIdx) (offset : Half) (i : Instr), Fetches (encode i) s →
      ((i = .lh rt offset base ∨ i = .lhu rt offset base) ∧ (s.xpost base + sext16 offset).toNat % 2 ≠ 0) ∨
        (i = .lw rt offset base ∧ (s.xpost base + sext16 offset).toNat % 4 ≠ 0) →
      ∃ t, step s = .next t ∧ EntersInSlot 4#5 0x80000080#32 0xBFC00180#32 (s.xpost base + sext16 offset) s t) ∧
    (∀ (rt base : RegIdx) (offset : Half) (i : Instr), Fetches (encode i) s →
      (i = .sh rt offset base ∧ (s.xpost base + sext16 offset).toNat % 2 ≠ 0) ∨
        (i = .sw rt offset base ∧ (s.xpost base + sext16 offset).toNat % 4 ≠ 0) →
      ∃ t, step s = .next t ∧ EntersInSlot 5#5 0x80000080#32 0xBFC00180#32 (s.xpost base + sext16 offset) s t)

/-- R140: the overflow rule of the signed forms, by the exact integer result. -/
def Obligations.SignedOverflowTraps : Prop :=
  (∀ (rd rs rt : RegIdx) (s : State),
    (Fits ((s.x rs).toInt + (s.x rt).toInt) → ∃ t, exec (.add rd rs rt) s = .next t ∧
      WritesRegister rd (BitVec.ofInt 32 ((s.x rs).toInt + (s.x rt).toInt)) s t) ∧
    (¬ Fits ((s.x rs).toInt + (s.x rt).toInt) → ∃ t, exec (.add rd rs rt) s = .next t ∧ Raises 12#5 s.badVAddr s t)) ∧
  (∀ (rd rs rt : RegIdx) (s : State),
    (Fits ((s.x rs).toInt - (s.x rt).toInt) → ∃ t, exec (.sub rd rs rt) s = .next t ∧
      WritesRegister rd (BitVec.ofInt 32 ((s.x rs).toInt - (s.x rt).toInt)) s t) ∧
    (¬ Fits ((s.x rs).toInt - (s.x rt).toInt) → ∃ t, exec (.sub rd rs rt) s = .next t ∧ Raises 12#5 s.badVAddr s t)) ∧
  (∀ (rt rs : RegIdx) (imm : Half) (s : State),
    (Fits ((s.x rs).toInt + imm.toInt) → ∃ t, exec (.addi rt rs imm) s = .next t ∧
      WritesRegister rt (BitVec.ofInt 32 ((s.x rs).toInt + imm.toInt)) s t) ∧
    (¬ Fits ((s.x rs).toInt + imm.toInt) → ∃ t, exec (.addi rt rs imm) s = .next t ∧ Raises 12#5 s.badVAddr s t)) ∧
  (∀ (a b c : RegIdx) (imm : Half) (i : Instr) (s : State), i = .addu a b c ∨ i = .subu a b c ∨ i = .addiu a b imm →
    ∃ t, exec i s = .next t ∧ t.pc = s.pc ∧ t.cause = s.cause ∧ t.epc = s.epc) ∧
  (∀ a b : Word, (¬ Fits (a.toInt + b.toInt) ↔ a.msb = b.msb ∧ (a + b).msb ≠ a.msb) ∧
    (¬ Fits (a.toInt - b.toInt) ↔ a.msb ≠ b.msb ∧ (a - b).msb ≠ a.msb))

/-- R142, R144 to R150, R159: the operations of the register forms that do not trap. -/
def Obligations.RegisterAluResults : Prop :=
  ∀ (rd rs rt : RegIdx) (s : State),
    (∃ t, exec (.addu rd rs rt) s = .next t ∧
      WritesRegister rd (BitVec.ofNat 32 ((s.x rs).toNat + (s.x rt).toNat)) s t) ∧
    (∃ t, exec (.subu rd rs rt) s = .next t ∧
      WritesRegister rd (BitVec.ofInt 32 ((s.x rs).toNat - (s.x rt).toNat : Int)) s t) ∧
    (∃ t v, exec (.and rd rs rt) s = .next t ∧ WritesRegister rd v s t ∧
      ∀ k, v.getLsbD k = ((s.x rs).getLsbD k && (s.x rt).getLsbD k)) ∧
    (∃ t v, exec (.or rd rs rt) s = .next t ∧ WritesRegister rd v s t ∧
      ∀ k, v.getLsbD k = ((s.x rs).getLsbD k || (s.x rt).getLsbD k)) ∧
    (∃ t v, exec (.xor rd rs rt) s = .next t ∧ WritesRegister rd v s t ∧
      ∀ k, v.getLsbD k = ((s.x rs).getLsbD k ^^ (s.x rt).getLsbD k)) ∧
    (∃ t v, exec (.nor rd rs rt) s = .next t ∧ WritesRegister rd v s t ∧
      ∀ k < 32, v.getLsbD k = !((s.x rs).getLsbD k || (s.x rt).getLsbD k)) ∧
    (∃ t, exec (.slt rd rs rt) s = .next t ∧
      WritesRegister rd (if (s.x rs).toInt < (s.x rt).toInt then 1#32 else 0#32) s t) ∧
    (∃ t, exec (.sltu rd rs rt) s = .next t ∧
      WritesRegister rd (if (s.x rs).toNat < (s.x rt).toNat then 1#32 else 0#32) s t)

/-- R152 to R158, R93. -/
def Obligations.ImmediateAluResults : Prop :=
  ∀ (rt rs : RegIdx) (imm : Half) (s : State),
    (∃ t, exec (.addiu rt rs imm) s = .next t ∧
      WritesRegister rt (BitVec.ofInt 32 ((s.x rs).toInt + imm.toInt)) s t) ∧
    (∃ t, exec (.slti rt rs imm) s = .next t ∧
      WritesRegister rt (if (s.x rs).toInt < imm.toInt then 1#32 else 0#32) s t) ∧
    (∃ t, exec (.sltiu rt rs imm) s = .next t ∧
      WritesRegister rt (if (s.x rs).toNat < (imm.toInt % 2 ^ 32).toNat then 1#32 else 0#32) s t) ∧
    (∃ t v, exec (.andi rt rs imm) s = .next t ∧ WritesRegister rt v s t ∧
      ∀ k, v.getLsbD k = ((s.x rs).getLsbD k && imm.getLsbD k)) ∧
    (∃ t v, exec (.ori rt rs imm) s = .next t ∧ WritesRegister rt v s t ∧
      ∀ k, v.getLsbD k = ((s.x rs).getLsbD k || imm.getLsbD k)) ∧
    (∃ t v, exec (.xori rt rs imm) s = .next t ∧ WritesRegister rt v s t ∧
      ∀ k, v.getLsbD k = ((s.x rs).getLsbD k ^^ imm.getLsbD k)) ∧
    (∃ t, exec (.lui rt imm) s = .next t ∧ WritesRegister rt (BitVec.ofNat 32 (imm.toNat * 2 ^ 16)) s t)

/-- R170 to R176: shift amounts and results, as arithmetic. -/
def Obligations.ShiftResults : Prop :=
  ∀ (rd rt rs : RegIdx) (sa : BitVec 5) (s : State),
    (∃ t, exec (.sll rd rt sa) s = .next t ∧
      WritesRegister rd (BitVec.ofNat 32 ((s.x rt).toNat * 2 ^ sa.toNat)) s t) ∧
    (∃ t, exec (.srl rd rt sa) s = .next t ∧
      WritesRegister rd (BitVec.ofNat 32 ((s.x rt).toNat / 2 ^ sa.toNat)) s t) ∧
    (∃ t, exec (.sra rd rt sa) s = .next t ∧
      WritesRegister rd (BitVec.ofInt 32 ((s.x rt).toInt / 2 ^ sa.toNat)) s t) ∧
    (∃ t, exec (.sllv rd rt rs) s = .next t ∧
      WritesRegister rd (BitVec.ofNat 32 ((s.x rt).toNat * 2 ^ ((s.x rs).toNat % 32))) s t) ∧
    (∃ t, exec (.srlv rd rt rs) s = .next t ∧
      WritesRegister rd (BitVec.ofNat 32 ((s.x rt).toNat / 2 ^ ((s.x rs).toNat % 32))) s t) ∧
    (∃ t, exec (.srav rd rt rs) s = .next t ∧
      WritesRegister rd (BitVec.ofInt 32 ((s.x rt).toInt / 2 ^ ((s.x rs).toNat % 32))) s t)

/-- R181, R182. -/
def Obligations.MultiplyLeavesTheExactProduct : Prop :=
  ∀ (rs rt : RegIdx) (s : State),
    (∃ t, exec (.mult rs rt) s = .next t ∧ WritesHiLo t.hi t.lo s t ∧
      (t.hi ++ t.lo).toInt = (s.x rs).toInt * (s.x rt).toInt) ∧
    (∃ t, exec (.multu rs rt) s = .next t ∧ WritesHiLo t.hi t.lo s t ∧
      (t.hi ++ t.lo).toNat = (s.x rs).toNat * (s.x rt).toNat)

/-- R184, with the spec's decision D30 for 0 / 0 (log 11). -/
def Obligations.DivideByZeroResults : Prop :=
  ∀ (rs rt : RegIdx) (s : State), s.x rt = 0#32 → ∃ t, exec (.div rs rt) s = .next t ∧
    WritesHiLo (s.x rs) (if (s.x rs).toInt < 0 then 0xFFFFFFFF#32 else 1#32) s t

/-- R185. -/
def Obligations.DivideMostNegativeByMinusOne : Prop :=
  ∀ (rs rt : RegIdx) (s : State), s.x rs = 0x80000000#32 → s.x rt = 0xFFFFFFFF#32 →
    ∃ t, exec (.div rs rt) s = .next t ∧ WritesHiLo 0x00000000#32 0x80000000#32 s t

/-- R183, the ordinary case; the rounding is the spec's decision D30. -/
def Obligations.DivideTruncatesTowardZero : Prop :=
  ∀ (rs rt : RegIdx) (s : State), s.x rt ≠ 0#32 → ¬ (s.x rs = 0x80000000#32 ∧ s.x rt = 0xFFFFFFFF#32) →
    ∃ t, exec (.div rs rt) s = .next t ∧ WritesHiLo t.hi t.lo s t ∧
      (s.x rs).toInt = t.lo.toInt * (s.x rt).toInt + t.hi.toInt ∧
      t.hi.toInt.natAbs < (s.x rt).toInt.natAbs ∧
      (t.hi.toInt = 0 ∨ (t.hi.toInt < 0 ↔ (s.x rs).toInt < 0)) ∧
      t.lo.toInt = (s.x rs).toInt.tdiv (s.x rt).toInt

/-- R186, operation and corner cases. -/
def Obligations.UnsignedDivideResults : Prop :=
  ∀ (rs rt : RegIdx) (s : State), ∃ t, exec (.divu rs rt) s = .next t ∧ WritesHiLo t.hi t.lo s t ∧
    (s.x rt = 0#32 → t.lo = 0xFFFFFFFF#32 ∧ t.hi = s.x rs) ∧
    (s.x rt ≠ 0#32 → t.lo.toNat = (s.x rs).toNat / (s.x rt).toNat ∧
      t.hi.toNat = (s.x rs).toNat - t.lo.toNat * (s.x rt).toNat ∧ t.hi.toNat < (s.x rt).toNat)

/-- R187 to R190. -/
def Obligations.HiLoMoves : Prop :=
  ∀ (r : RegIdx) (s : State),
    (∃ t, exec (.mfhi r) s = .next t ∧ WritesRegister r s.hi s t) ∧
    (∃ t, exec (.mflo r) s = .next t ∧ WritesRegister r s.lo s t) ∧
    (∃ t, exec (.mthi r) s = .next t ∧ WritesHiLo (s.x r) s.lo s t) ∧
    (∃ t, exec (.mtlo r) s = .next t ∧ WritesHiLo s.hi (s.x r) s t)

/-- R25: "No other instruction and no exception touches them." -/
def Obligations.OnlyTheMultiplyUnitWritesHiLo : Prop :=
  ∀ s t : State, step s = .next t → (t.hi ≠ s.hi ∨ t.lo ≠ s.lo) →
    ¬ InterruptDue s ∧ s.pc.toNat % 4 = 0 ∧ t.epc = s.epc ∧ t.cause = s.cause ∧
    ∃ rs rt : RegIdx, decodeWord t.instruction = .mult rs rt ∨ decodeWord t.instruction = .multu rs rt ∨
      decodeWord t.instruction = .div rs rt ∨ decodeWord t.instruction = .divu rs rt ∨
      decodeWord t.instruction = .mthi rs ∨ decodeWord t.instruction = .mtlo rs

/-- R200, R201, R203, R205 to R216; the address formulas and the link rule are marked by the spec as its decisions D10 and D11. -/
def Obligations.BranchesAndJumpsWriteTheDelayPairAndNextPc : Prop :=
  ∀ (rs rt rd : RegIdx) (offset : Half) (target : BitVec 26) (s : State),
    (∃ t, exec (.j target) s = .next t ∧ Branches true (jumpTo s target) none s t) ∧
    (∃ t, exec (.jal target) s = .next t ∧ Branches true (jumpTo s target) (some 31#5) s t) ∧
    (∃ t, exec (.jr rs) s = .next t ∧ Branches true (s.x rs) none s t) ∧
    (∃ t, exec (.jalr rd rs) s = .next t ∧ Branches true (s.x rs) (some rd) s t) ∧
    (∃ t, exec (.beq rs rt offset) s = .next t ∧ Branches (decide (s.x rs = s.x rt)) (branchTo s offset) none s t) ∧
    (∃ t, exec (.bne rs rt offset) s = .next t ∧ Branches (decide (s.x rs ≠ s.x rt)) (branchTo s offset) none s t) ∧
    (∃ t, exec (.blez rs offset) s = .next t ∧
      Branches (decide ((s.x rs).toInt ≤ 0)) (branchTo s offset) none s t) ∧
    (∃ t, exec (.bgtz rs offset) s = .next t ∧
      Branches (decide (0 < (s.x rs).toInt)) (branchTo s offset) none s t) ∧
    (∃ t, exec (.bltz rs offset) s = .next t ∧
      Branches (decide ((s.x rs).toInt < 0)) (branchTo s offset) none s t) ∧
    (∃ t, exec (.bgez rs offset) s = .next t ∧
      Branches (decide (0 ≤ (s.x rs).toInt)) (branchTo s offset) none s t) ∧
    (∃ t, exec (.bltzal rs offset) s = .next t ∧
      Branches (decide ((s.x rs).toInt < 0)) (branchTo s offset) (some 31#5) s t) ∧
    (∃ t, exec (.bgezal rs offset) s = .next t ∧
      Branches (decide (0 ≤ (s.x rs).toInt)) (branchTo s offset) (some 31#5) s t)

/-- R122, R131 (first table) and R350 as two steps. -/
def Obligations.DelaySlotExecutesBeforeTheTarget : Prop :=
  ∀ (s : State) (rs rt r : RegIdx) (offset imm : Half), s.pendingLoad = none → s.iec = false →
    s.nextPc = s.pc + 4#32 → Fetches (encode (.bne rs rt offset)) s →
    (∀ j < 4, s.byteAt? (s.pc + 4#32 + BitVec.ofNat 32 j) = some (byteOf (encode (.addiu r 0 imm)) j)) →
    ∃ t u, step s = .next t ∧ step t = .next u ∧ t.pc = s.pc + 4#32 ∧ t.branchDelayActive = true ∧
      (r ≠ 0#5 → u.xpost r = BitVec.ofInt 32 imm.toInt) ∧
      u.savedBranchDelayActive = true ∧ u.branchDelayActive = false ∧
      u.savedBranchTaken = decide (s.xpost rs ≠ s.xpost rt) ∧
      u.pc = if s.xpost rs ≠ s.xpost rt then BitVec.ofInt 32 (s.pc.toNat + 4 + 4 * offset.toInt) else s.pc + 8#32

/-- R220, R240, R276, R277. -/
def Obligations.EffectiveAddressIsBasePlusOffset : Prop :=
  ∀ (rt base : RegIdx) (offset : Half) (s : State),
    let a := BitVec.ofInt 32 ((s.x base).toInt + offset.toInt)
    s.effAddr base offset = a ∧
    (∀ i ∈ [Instr.lb rt offset base, Instr.lbu rt offset base, Instr.sb rt offset base],
      ∃ t kind data, exec i s = .next t ∧ t.bus = s.bus ++ [⟨kind, .byte, a, data⟩]) ∧
    (a.toNat % 2 = 0 → ∀ i ∈ [Instr.lh rt offset base, Instr.lhu rt offset base, Instr.sh rt offset base],
      ∃ t kind data, exec i s = .next t ∧ t.bus = s.bus ++ [⟨kind, .half, a, data⟩]) ∧
    (a.toNat % 4 = 0 → ∀ i ∈ [Instr.lw rt offset base, Instr.sw rt offset base],
      ∃ t kind data, exec i s = .next t ∧ t.bus = s.bus ++ [⟨kind, .word, a, data⟩]) ∧
    (∀ i ∈ [Instr.lwl rt offset base, Instr.lwr rt offset base, Instr.swl rt offset base, Instr.swr rt offset base],
      ∃ t data rest, exec i s = .next t ∧ t.bus = s.bus ++ ⟨.read, .word, a &&& ~~~3#32, data⟩ :: rest ∧
        ∀ op ∈ rest, op.addr = a &&& ~~~3#32) ∧
    (∀ i ∈ [Instr.lwc2 rt offset base, Instr.swc2 rt offset base],
      ∃ t, exec i s = .next t ∧ t.cop2 = some ⟨s.instruction, some a, none⟩ ∧ t.bus = s.bus) ∧
    (∀ i ∈ [Instr.lb rt offset base, Instr.lbu rt offset base, Instr.lh rt offset base, Instr.lhu rt offset base,
        Instr.lw rt offset base, Instr.lwl rt offset base, Instr.lwr rt offset base, Instr.sb rt offset base,
        Instr.sh rt offset base, Instr.sw rt offset base, Instr.swl rt offset base, Instr.swr rt offset base,
        Instr.lwc2 rt offset base, Instr.swc2 rt offset base],
      ∃ t, exec i s = .next t ∧ t.gpr = s.gpr)

/-- R221, R224 to R228; the byte order is the spec's decision D1. The bus record, the free bytes and the address map are the model's (log 1, log 2, log 3, log 7). -/
def Obligations.AlignedLoadsStageTheirValue : Prop :=
  ∀ (rt base : RegIdx) (offset : Half) (s : State),
    (∃ t b, exec (.lb rt offset base) s = .next t ∧ Answers s (s.effAddr base offset) b ∧
      Stages rt (BitVec.ofInt 32 b.toInt) [⟨.read, .byte, s.effAddr base offset, b.setWidth 32⟩] s t) ∧
    (∃ t b, exec (.lbu rt offset base) s = .next t ∧ Answers s (s.effAddr base offset) b ∧
      Stages rt (BitVec.ofNat 32 b.toNat) [⟨.read, .byte, s.effAddr base offset, b.setWidth 32⟩] s t) ∧
    ((s.effAddr base offset).toNat % 2 = 0 →
      (∃ t b1 b0, exec (.lh rt offset base) s = .next t ∧ Answers s (s.effAddr base offset) b0 ∧
        Answers s (s.effAddr base offset + 1#32) b1 ∧
        Stages rt (BitVec.ofInt 32 (b1.toInt * 256 + b0.toNat))
          [⟨.read, .half, s.effAddr base offset, ofBytes 0 0 b1 b0⟩] s t) ∧
      (∃ t b1 b0, exec (.lhu rt offset base) s = .next t ∧ Answers s (s.effAddr base offset) b0 ∧
        Answers s (s.effAddr base offset + 1#32) b1 ∧
        Stages rt (ofBytes 0 0 b1 b0) [⟨.read, .half, s.effAddr base offset, ofBytes 0 0 b1 b0⟩] s t)) ∧
    ((s.effAddr base offset).toNat % 4 = 0 →
      ∃ t b3 b2 b1 b0, exec (.lw rt offset base) s = .next t ∧ Answers s (s.effAddr base offset) b0 ∧
        Answers s (s.effAddr base offset + 1#32) b1 ∧ Answers s (s.effAddr base offset + 2#32) b2 ∧
        Answers s (s.effAddr base offset + 3#32) b3 ∧
        Stages rt (ofBytes b3 b2 b1 b0) [⟨.read, .word, s.effAddr base offset, ofBytes b3 b2 b1 b0⟩] s t)

/-- R222, R229 to R231; the byte order is the spec's decision D1. The bus record and the address map are the model's (log 7; log 2 and log 3). -/
def Obligations.AlignedStoresWriteTheirBytes : Prop :=
  ∀ (rt base : RegIdx) (offset : Half) (s : State),
    (∃ t, exec (.sb rt offset base) s = .next t ∧
      Stores (s.effAddr base offset) [byteOf (s.x rt) 0]
        [⟨.write, .byte, s.effAddr base offset, ofBytes 0 0 0 (byteOf (s.x rt) 0)⟩] s t) ∧
    ((s.effAddr base offset).toNat % 2 = 0 → ∃ t, exec (.sh rt offset base) s = .next t ∧
      Stores (s.effAddr base offset) [byteOf (s.x rt) 0, byteOf (s.x rt) 1]
        [⟨.write, .half, s.effAddr base offset, ofBytes 0 0 (byteOf (s.x rt) 1) (byteOf (s.x rt) 0)⟩] s t) ∧
    ((s.effAddr base offset).toNat % 4 = 0 → ∃ t, exec (.sw rt offset base) s = .next t ∧
      Stores (s.effAddr base offset) [byteOf (s.x rt) 0, byteOf (s.x rt) 1, byteOf (s.x rt) 2, byteOf (s.x rt) 3]
        [⟨.write, .word, s.effAddr base offset, s.x rt⟩] s t)

/-- R66, for each load and store. LWL, LWR, SWL and SWR access the aligned word. -/
def Obligations.MisalignedAccessesAreStoppedBeforeTheBus : Prop :=
  (∀ (rt base : RegIdx) (offset : Half) (s : State), (s.effAddr base offset).toNat % 2 ≠ 0 →
    (∃ t, exec (.lh rt offset base) s = .next t ∧ Raises 4#5 (s.effAddr base offset) s t) ∧
    (∃ t, exec (.lhu rt offset base) s = .next t ∧ Raises 4#5 (s.effAddr base offset) s t) ∧
    (∃ t, exec (.sh rt offset base) s = .next t ∧ Raises 5#5 (s.effAddr base offset) s t)) ∧
  (∀ (rt base : RegIdx) (offset : Half) (s : State), (s.effAddr base offset).toNat % 4 ≠ 0 →
    (∃ t, exec (.lw rt offset base) s = .next t ∧ Raises 4#5 (s.effAddr base offset) s t) ∧
    (∃ t, exec (.sw rt offset base) s = .next t ∧ Raises 5#5 (s.effAddr base offset) s t)) ∧
  (∀ (rt base : RegIdx) (offset : Half) (i : Instr) (s : State),
    i ∈ [.lb rt offset base, .lbu rt offset base, .sb rt offset base, .lwl rt offset base, .lwr rt offset base,
      .swl rt offset base, .swr rt offset base, .lwc2 rt offset base, .swc2 rt offset base] →
    ∃ t, exec i s = .next t ∧ t.pc = s.pc ∧ t.nextPc = s.nextPc ∧ t.epc = s.epc ∧ t.cause = s.cause ∧ t.sr = s.sr ∧
      t.badVAddr = s.badVAddr) ∧
  (∀ (rt base : RegIdx) (offset : Half) (i : Instr) (s : State),
    i ∈ [.lwl rt offset base, .lwr rt offset base, .swl rt offset base, .swr rt offset base] →
    ∃ t ops, exec i s = .next t ∧ t.bus = s.bus ++ ops ∧
      ∀ op ∈ ops, op.width = .word ∧ op.addr = s.effAddr base offset &&& ~~~3#32) ∧
  (∀ (rt base : RegIdx) (offset : Half) (i : Instr) (s : State),
    i ∈ [.lwc2 rt offset base, .swc2 rt offset base] → ∃ t, exec i s = .next t ∧ t.bus = s.bus)

/-- R240 to R243, in the byte picture of R241. -/
def Obligations.UnalignedLoadsMergeBytes : Prop :=
  ∀ (rt base : RegIdx) (offset : Half) (s : State),
    let a := s.effAddr base offset
    let w := BitVec.ofNat 32 (a.toNat - a.toNat % 4)
    let r := s.xpost rt
    (∃ t v m3 m2 m1 m0, exec (.lwl rt offset base) s = .next t ∧ Answers s w m0 ∧ Answers s (w + 1#32) m1 ∧
      Answers s (w + 2#32) m2 ∧ Answers s (w + 3#32) m3 ∧ Stages rt v [⟨.read, .word, w, ofBytes m3 m2 m1 m0⟩] s t ∧
      (a.toNat % 4 = 0 → v = ofBytes m0 (byteOf r 2) (byteOf r 1) (byteOf r 0)) ∧
      (a.toNat % 4 = 1 → v = ofBytes m1 m0 (byteOf r 1) (byteOf r 0)) ∧
      (a.toNat % 4 = 2 → v = ofBytes m2 m1 m0 (byteOf r 0)) ∧
      (a.toNat % 4 = 3 → v = ofBytes m3 m2 m1 m0)) ∧
    (∃ t v m3 m2 m1 m0, exec (.lwr rt offset base) s = .next t ∧ Answers s w m0 ∧ Answers s (w + 1#32) m1 ∧
      Answers s (w + 2#32) m2 ∧ Answers s (w + 3#32) m3 ∧ Stages rt v [⟨.read, .word, w, ofBytes m3 m2 m1 m0⟩] s t ∧
      (a.toNat % 4 = 0 → v = ofBytes m3 m2 m1 m0) ∧
      (a.toNat % 4 = 1 → v = ofBytes (byteOf r 3) m3 m2 m1) ∧
      (a.toNat % 4 = 2 → v = ofBytes (byteOf r 3) (byteOf r 2) m3 m2) ∧
      (a.toNat % 4 = 3 → v = ofBytes (byteOf r 3) (byteOf r 2) (byteOf r 1) m3))

/-- R240, R241, R244, R245, in the byte picture; the patterns are the spec's decision D33. The free bytes, the address map and the bus record are the model's (log 1, log 2, log 3, log 7). -/
def Obligations.UnalignedStoresMergeBytes : Prop :=
  ∀ (rt base : RegIdx) (offset : Half) (s : State),
    let a := s.effAddr base offset
    let w := BitVec.ofNat 32 (a.toNat - a.toNat % 4)
    let r := s.x rt
    (∃ t m3 m2 m1 m0 v3 v2 v1 v0, exec (.swl rt offset base) s = .next t ∧ Answers s w m0 ∧
      Answers s (w + 1#32) m1 ∧ Answers s (w + 2#32) m2 ∧ Answers s (w + 3#32) m3 ∧
      Stores w [v0, v1, v2, v3] [⟨.read, .word, w, ofBytes m3 m2 m1 m0⟩, ⟨.write, .word, w, ofBytes v3 v2 v1 v0⟩] s t ∧
      (a.toNat % 4 = 0 → [v3, v2, v1, v0] = [m3, m2, m1, byteOf r 3]) ∧
      (a.toNat % 4 = 1 → [v3, v2, v1, v0] = [m3, m2, byteOf r 3, byteOf r 2]) ∧
      (a.toNat % 4 = 2 → [v3, v2, v1, v0] = [m3, byteOf r 3, byteOf r 2, byteOf r 1]) ∧
      (a.toNat % 4 = 3 → [v3, v2, v1, v0] = [byteOf r 3, byteOf r 2, byteOf r 1, byteOf r 0])) ∧
    (∃ t m3 m2 m1 m0 v3 v2 v1 v0, exec (.swr rt offset base) s = .next t ∧ Answers s w m0 ∧
      Answers s (w + 1#32) m1 ∧ Answers s (w + 2#32) m2 ∧ Answers s (w + 3#32) m3 ∧
      Stores w [v0, v1, v2, v3] [⟨.read, .word, w, ofBytes m3 m2 m1 m0⟩, ⟨.write, .word, w, ofBytes v3 v2 v1 v0⟩] s t ∧
      (a.toNat % 4 = 0 → [v3, v2, v1, v0] = [byteOf r 3, byteOf r 2, byteOf r 1, byteOf r 0]) ∧
      (a.toNat % 4 = 1 → [v3, v2, v1, v0] = [byteOf r 2, byteOf r 1, byteOf r 0, m0]) ∧
      (a.toNat % 4 = 2 → [v3, v2, v1, v0] = [byteOf r 1, byteOf r 0, m1, m0]) ∧
      (a.toNat % 4 = 3 → [v3, v2, v1, v0] = [byteOf r 0, m2, m1, m0]))

/-- R241 and R246, which rest on the spec's decision D7. -/
def Obligations.LwrThenLwlLoadsTheUnalignedWord : Prop :=
  ∀ (rt base : RegIdx) (o1 o2 : Half) (s : State) (b3 b2 b1 b0 : Byte), s.x base = s.xpost base →
    rt ≠ 0#5 → s.effAddr base o2 = s.effAddr base o1 + 3#32 →
    s.byteAt? (s.effAddr base o1) = some b0 → s.byteAt? (s.effAddr base o1 + 1#32) = some b1 →
    s.byteAt? (s.effAddr base o1 + 2#32) = some b2 → s.byteAt? (s.effAddr base o1 + 3#32) = some b3 →
    ∃ t u, exec (.lwr rt o1 base) s = .next t ∧ exec (.lwl rt o2 base) t.phase2 = .next u ∧
      ∃ old, u.pendingLoad = some ⟨rt, old, ofBytes b3 b2 b1 b0⟩

/-- R241, which the spec derives from R242 to R245. The address map is the model's (log 2, log 3). -/
def Obligations.SwrThenSwlStoresTheUnalignedWord : Prop :=
  ∀ (rt base : RegIdx) (o1 o2 : Half) (s : State), s.effAddr base o2 = s.effAddr base o1 + 3#32 →
    ∃ t u, exec (.swr rt o1 base) s = .next t ∧ exec (.swl rt o2 base) t = .next u ∧
      (∀ j < 4, ∀ p, s.storageAt (s.effAddr base o1 + BitVec.ofNat 32 j) = some p →
        u.mem.read? p.toNat = some (byteOf (s.x rt) j)) ∧
      ∀ (k : Nat) (b : Byte), s.mem.read? k = some b → NotBehind (s.effAddr base o1) 4 s k → u.mem.read? k = some b

/-- R68, for all instructions. The record of bus operations is the model's field (log 7). -/
def Obligations.BusOperationsOfEachInstruction : Prop :=
  (∀ (rt base : RegIdx) (o : Half) (s : State),
    (∀ i ∈ [Instr.lb rt o base, Instr.lbu rt o base], ∃ t d, exec i s = .next t ∧
      t.bus = s.bus ++ [⟨.read, .byte, s.effAddr base o, d⟩]) ∧
    ((s.effAddr base o).toNat % 2 = 0 → ∀ i ∈ [Instr.lh rt o base, Instr.lhu rt o base], ∃ t d, exec i s = .next t ∧
      t.bus = s.bus ++ [⟨.read, .half, s.effAddr base o, d⟩]) ∧
    ((s.effAddr base o).toNat % 4 = 0 → ∃ t d, exec (.lw rt o base) s = .next t ∧
      t.bus = s.bus ++ [⟨.read, .word, s.effAddr base o, d⟩]) ∧
    (∃ t, exec (.sb rt o base) s = .next t ∧
      t.bus = s.bus ++ [⟨.write, .byte, s.effAddr base o, BitVec.ofNat 32 ((s.x rt).toNat % 2 ^ 8)⟩]) ∧
    ((s.effAddr base o).toNat % 2 = 0 → ∃ t, exec (.sh rt o base) s = .next t ∧
      t.bus = s.bus ++ [⟨.write, .half, s.effAddr base o, BitVec.ofNat 32 ((s.x rt).toNat % 2 ^ 16)⟩]) ∧
    ((s.effAddr base o).toNat % 4 = 0 → ∃ t, exec (.sw rt o base) s = .next t ∧
      t.bus = s.bus ++ [⟨.write, .word, s.effAddr base o, s.x rt⟩]) ∧
    (∀ i ∈ [Instr.lwl rt o base, Instr.lwr rt o base], ∃ t d, exec i s = .next t ∧
      t.bus = s.bus ++ [⟨.read, .word, s.effAddr base o &&& ~~~3#32, d⟩]) ∧
    (∀ i ∈ [Instr.swl rt o base, Instr.swr rt o base], ∃ t d e, exec i s = .next t ∧
      t.bus = s.bus ++ [⟨.read, .word, s.effAddr base o &&& ~~~3#32, d⟩,
        ⟨.write, .word, s.effAddr base o &&& ~~~3#32, e⟩])) ∧
  (∀ (i : Instr) (s t : State), exec i s = .next t →
    i.mnemonic ∉ ["LB", "LBU", "LH", "LHU", "LW", "SB", "SH", "SW", "LWL", "LWR", "SWL", "SWR"] → t.bus = s.bus) ∧
  (∀ s t : State, ¬ InterruptDue s → s.pc.toNat % 4 = 0 → step s = .next t →
    ∃ w rest, t.bus = ⟨.read, .word, s.pc, w⟩ :: rest ∧ w = t.instruction)

/-- The first part of R61: what the core guarantees to the bus, for every step from every state. -/
def Obligations.OnlyAlignedAccessesReachTheBus : Prop :=
  ∀ s t : State, step s = .next t → ∀ op ∈ t.bus,
    (op.width = .half → op.addr.toNat % 2 = 0) ∧ (op.width = .word → op.addr.toNat % 4 = 0)

/-- R76, which the spec derives from R64 and R74 (decision D34); views of one storage: R62. The address map is the model's (log 2, log 3). -/
def Obligations.StoreIsSeenByTheNextFetch : Prop :=
  ∀ (rt base : RegIdx) (offset : Half) (s : State) (k : Nat) (p : Word), s.pc.toNat % 4 = 0 → k < 4 →
    s.storageAt (s.pc + BitVec.ofNat 32 k) = some p → s.storageAt (s.effAddr base offset) = some p →
    let old := fun j => s.byteAt? (s.pc + BitVec.ofNat 32 j)
    let r := s.x rt
    (∃ t, exec (.sb rt offset base) s = .next t ∧
      NextFetchHas (fun j => if j = k then some (byteOf r 0) else old j) t) ∧
    (k % 2 = 0 → ∃ t, exec (.sh rt offset base) s = .next t ∧
      NextFetchHas (fun j => if j = k ∨ j = k + 1 then some (byteOf r (j - k)) else old j) t) ∧
    (k = 0 → ∃ t, exec (.sw rt offset base) s = .next t ∧ NextFetchHas (fun j => some (byteOf r j)) t) ∧
    (∃ t, exec (.swl rt offset base) s = .next t ∧
      NextFetchHas (fun j => if j ≤ k then some (byteOf r (3 - k + j)) else old j) t) ∧
    (∃ t, exec (.swr rt offset base) s = .next t ∧
      NextFetchHas (fun j => if k ≤ j then some (byteOf r (j - k)) else old j) t)

/-- R250, R251, R31; the numbers are the spec's decision D12. -/
def Obligations.Mfc0ReadsEveryRegister : Prop :=
  ∀ (rt : RegIdx) (s : State),
    (∀ p ∈ [(3#5, s.bpc), (5#5, s.bda), (6#5, s.jumpDest), (7#5, s.dcic), (8#5, s.badVAddr), (9#5, s.bdam),
      (11#5, s.bpcm), (12#5, s.sr), (14#5, s.epc), (15#5, s.prid)],
      ∃ t, exec (.mfc0 rt p.1) s = .next t ∧ Stages rt p.2 [] s t ∧ t.freeCount = s.freeCount) ∧
    ∃ t v, exec (.mfc0 rt 13#5) s = .next t ∧ Stages rt v [] s t ∧ t.freeCount = s.freeCount ∧
      v.extractLsb' 2 5 = s.cause.excCode ∧ v.extractLsb' 8 2 = s.cause.ip ∧ v.extractLsb' 10 6 = s.extIrq ∧
      v.getLsbD 31 = s.cause.bd ∧ v &&& 0x7FFF0083#32 = 0#32

/-- R252, R30, R45; that the two writable bits of CAUSE are 9:8 is the spec's decision D46. -/
def Obligations.Mtc0FollowsTheAccessPolicy : Prop :=
  ∀ (rt : RegIdx) (s : State),
    exec (.mtc0 rt 3) s = .next { s with bpc := s.x rt } ∧ exec (.mtc0 rt 5) s = .next { s with bda := s.x rt } ∧
    exec (.mtc0 rt 7) s = .next { s with dcic := s.x rt } ∧ exec (.mtc0 rt 9) s = .next { s with bdam := s.x rt } ∧
    exec (.mtc0 rt 11) s = .next { s with bpcm := s.x rt } ∧ exec (.mtc0 rt 12) s = .next { s with sr := s.x rt } ∧
    (∃ t, exec (.mtc0 rt 13) s = .next t ∧ t = { s with cause := t.cause } ∧
      t.causeWord = (s.causeWord &&& ~~~0x00000300#32) ||| (s.x rt &&& 0x00000300#32)) ∧
    ∀ rd ∈ [6#5, 8#5, 14#5, 15#5], exec (.mtc0 rt rd) s = .next s

/-- R253, the spec's decision D25. -/
def Obligations.Cop0NumbersThatNameNoRegister : Prop :=
  ∀ (rt rd : RegIdx) (i : Instr) (s : State), rd ∉ [3#5, 5#5, 6#5, 7#5, 8#5, 9#5, 11#5, 12#5, 13#5, 14#5, 15#5] →
    i = .mfc0 rt rd ∨ i = .mtc0 rt rd →
    ∃ t, exec i s = .next t ∧ OnlyOutputs (some ⟨s.instruction, s.currentPc⟩) s.cop2 s t

/-- R256, with the spec's decision D26. -/
def Obligations.RfePopsAndNothingElse : Prop :=
  ∀ s : State, ∃ t, exec .rfe s = .next t ∧ t = { s with sr := t.sr } ∧
    t.sr.extractLsb' 0 4 = s.sr.extractLsb' 2 4 ∧ t.sr.extractLsb' 4 28 = s.sr.extractLsb' 4 28

/-- R30, R31 (column "written by hardware"), R40 to R48, over all steps. -/
def Obligations.WhoWritesTheCop0Registers : Prop :=
  ∀ s t : State, step s = .next t →
    t.prid = s.prid ∧
    (t.bpc ≠ s.bpc → ∃ r, decodeWord t.instruction = .mtc0 r 3) ∧
    (t.bda ≠ s.bda → ∃ r, decodeWord t.instruction = .mtc0 r 5) ∧
    (t.dcic ≠ s.dcic → ∃ r, decodeWord t.instruction = .mtc0 r 7) ∧
    (t.bdam ≠ s.bdam → ∃ r, decodeWord t.instruction = .mtc0 r 9) ∧
    (t.bpcm ≠ s.bpcm → ∃ r, decodeWord t.instruction = .mtc0 r 11) ∧
    (t.sr ≠ s.sr → (∃ r, decodeWord t.instruction = .mtc0 r 12) ∨ decodeWord t.instruction = .rfe ∨
      (t.pc ∈ [0x80000080#32, 0xBFC00180#32, 0x80000040#32, 0xBFC00140#32] ∧ t.sr.extractLsb' 0 2 = 0#2)) ∧
    (t.epc ≠ s.epc ∨ t.jumpDest ≠ s.jumpDest ∨ t.badVAddr ≠ s.badVAddr ∨ t.cause.bd ≠ s.cause.bd ∨
        t.cause.excCode ≠ s.cause.excCode →
      t.pc ∈ [0x80000080#32, 0xBFC00180#32, 0x80000040#32, 0xBFC00140#32] ∧ t.sr.extractLsb' 0 2 = 0#2) ∧
    (t.cause.ip ≠ s.cause.ip → ∃ r, decodeWord t.instruction = .mtc0 r 13)

/-- R320, the spec's decision D21 (log 13). -/
def Obligations.ModeRestrictsNothing : Prop :=
  ∀ (i : Instr) (s t : State), exec i s = .next t →
    ∃ t', exec i { s with sr := s.sr ^^^ 0x00000002#32 } = .next t' ∧
      t' = { t with sr := t'.sr, pendingLoad := t'.pendingLoad } ∧
      ((∀ rt, i ≠ .mfc0 rt 12) → t'.pendingLoad = t.pendingLoad)

/-- R270 to R277, the spec's decision D27 (log 14). The port is the model's field (log 7). -/
def Obligations.Cop2StubsDriveThePortOnly : Prop :=
  ∀ (rt rd base : RegIdx) (offset : Half) (command : BitVec 25) (s : State),
    (∃ t, exec (.mfc2 rt rd) s = .next t ∧ OnlyOutputs s.diag (some ⟨s.instruction, none, none⟩) s t) ∧
    (∃ t, exec (.cfc2 rt rd) s = .next t ∧ OnlyOutputs s.diag (some ⟨s.instruction, none, none⟩) s t) ∧
    (∃ t, exec (.mtc2 rt rd) s = .next t ∧ OnlyOutputs s.diag (some ⟨s.instruction, none, some (s.x rt)⟩) s t) ∧
    (∃ t, exec (.ctc2 rt rd) s = .next t ∧ OnlyOutputs s.diag (some ⟨s.instruction, none, some (s.x rt)⟩) s t) ∧
    (∃ t, exec (.cop2 command) s = .next t ∧ OnlyOutputs s.diag (some ⟨s.instruction, none, none⟩) s t) ∧
    (∃ t, exec (.lwc2 rt offset base) s = .next t ∧ OnlyOutputs s.diag
      (some ⟨s.instruction, some (BitVec.ofInt 32 ((s.x base).toInt + offset.toInt)), none⟩) s t) ∧
    (∃ t, exec (.swc2 rt offset base) s = .next t ∧ OnlyOutputs s.diag
      (some ⟨s.instruction, some (BitVec.ofInt 32 ((s.x base).toInt + offset.toInt)), none⟩) s t)

/-- R280; the frame of the step follows 90_conflicts.md C8. -/
def Obligations.UnimplementedStepIsADiagnosticNop : Prop :=
  (∀ (w : Word) (s : State), ∃ t, exec (.unimplemented w) s = .next t ∧
    OnlyOutputs (some ⟨s.instruction, s.currentPc⟩) s.cop2 s t) ∧
  ∀ (w : Word) (s : State), isUnimplemented w = true → s.pendingLoad = none → Fetches w s →
    ∃ t, step s = .next t ∧ t.diag = some ⟨w, s.pc⟩ ∧ t.cop2 = none ∧ t.pc = s.nextPc ∧ t.nextPc = s.nextPc + 4#32 ∧
      t.currentPc = s.pc ∧ t.instruction = w ∧ t.pendingLoad = none ∧
      t.savedBranchDelayActive = s.branchDelayActive ∧ t.branchDelayActive = false ∧
      (∀ q, t.xpost q = s.xpost q) ∧ SameMemory s t ∧
      t = { s with
        operandView := t.operandView, pc := t.pc, nextPc := t.nextPc, currentPc := t.currentPc,
        instruction := t.instruction, branchDelayActive := t.branchDelayActive, branchTaken := t.branchTaken,
        savedBranchDelayActive := t.savedBranchDelayActive, savedBranchTaken := t.savedBranchTaken, priorPc := t.priorPc,
        extIrq := t.extIrq, irqFeed := t.irqFeed, bus := t.bus, diag := t.diag, cop2 := t.cop2,
        freeCount := t.freeCount }

/-- R204 and R303 step 5; where they differ, R204 and R353 or R47 and R303, by a free value of the model (log 23). -/
def Obligations.EpcWhenABranchStoodInADelaySlotItself : Prop :=
  ∀ s t u : State, step s = .next t → t.branchDelayActive = true →
    (InterruptDue t ∨ t.pc.toNat % 4 ≠ 0 ∨ ∃ code, Fetches (encode (.syscall code)) t) → step t = .next u →
    u.epc = (if Config.epcIsTheBranch then s.pc else t.pc - 4#32) ∧
      u.jumpDest = t.nextPc ∧ u.causeWord.getLsbD 31 = true ∧
      (s.nextPc = s.pc + 4#32 → u.epc = s.pc ∧ u.epc = t.pc - 4#32) ∧
      (s.Inv → s.branchTaken = false → u.epc = s.pc ∧ u.epc = t.pc - 4#32)

/-- The first sentence of R62, and the mixed-width reads of R65. The address map is the model's (log 2, log 3). -/
def Obligations.ViewsOfOneStorageAreOneMemory : Prop :=
  ∀ (rt base rd base2 : RegIdx) (offset offset2 : Half) (s : State) (k : Nat) (p : Word), k < 4 →
    (s.effAddr base offset).toNat % 4 = 0 → s.storageAt (s.effAddr base offset) = some p →
    s.storageAt (s.effAddr base2 offset2) = some (p + BitVec.ofNat 32 k) →
    let r := s.x rt
    ∃ t, exec (.sw rt offset base) s = .next t ∧
      (∃ u, exec (.lbu rd offset2 base2) t = .next u ∧
        u.pendingLoad = some ⟨rd, s.xpost rd, ofBytes 0 0 0 (byteOf r k)⟩) ∧
      (k % 2 = 0 → ∃ u, exec (.lhu rd offset2 base2) t = .next u ∧
        u.pendingLoad = some ⟨rd, s.xpost rd, ofBytes 0 0 (byteOf r (k + 1)) (byteOf r k)⟩) ∧
      (k = 0 → ∃ u, exec (.lw rd offset2 base2) t = .next u ∧ u.pendingLoad = some ⟨rd, s.xpost rd, r⟩)

/-- U6 and R62. The address map is the model's (log 2, log 3). -/
def Obligations.AccessesWithoutStorageCompleteAndStoreNothing : Prop :=
  (∀ (rt base : RegIdx) (offset : Half) (s : State), s.storageAt (s.effAddr base offset) = none →
    let silent := fun i => ∃ t, exec i s = .next t ∧ t = { s with bus := t.bus, freeCount := t.freeCount }
    let stages := fun i => ∃ t v ops, exec i s = .next t ∧ Stages rt v ops s t
    (∀ i ∈ [Instr.sb rt offset base, Instr.swl rt offset base, Instr.swr rt offset base], silent i) ∧
    ((s.effAddr base offset).toNat % 2 = 0 → silent (.sh rt offset base)) ∧
    ((s.effAddr base offset).toNat % 4 = 0 → silent (.sw rt offset base)) ∧
    (∀ i ∈ [Instr.lb rt offset base, Instr.lbu rt offset base, Instr.lwl rt offset base, Instr.lwr rt offset base],
      stages i) ∧
    ((s.effAddr base offset).toNat % 2 = 0 → stages (.lh rt offset base) ∧ stages (.lhu rt offset base)) ∧
    ((s.effAddr base offset).toNat % 4 = 0 → stages (.lw rt offset base))) ∧
  (∀ s t : State, step s = .next t → t.busMap = s.busMap)
end

