-- ==== Sys2Proof/Laws/Memory.lean ====
section
/-! SUPPORT. Laws of the memory behind the bus: a read after a write, and that every write keeps the canonical form. -/

namespace Sys2Proof.Machine

@[simp] theorem Memory.read?_write_same (m : Memory) (k : Nat) (v : Byte) : (m.write k v).read? k = some v := by
  induction m with
  | nil => simp [Memory.write, Memory.read?]
  | cons c m ih =>
    obtain ⟨a, b⟩ := c
    simp only [Memory.write]
    split
    · simp [Memory.read?]
    · split
      · simp [Memory.read?]
      · rename_i h
        simp [Memory.read?, Ne.symm h, ih]

theorem Memory.read?_write_ne (m : Memory) {k j : Nat} (v : Byte) (h : j ≠ k) :
    (m.write k v).read? j = m.read? j := by
  induction m with
  | nil => simp [Memory.write, Memory.read?, Ne.symm h]
  | cons c m ih =>
    obtain ⟨a, b⟩ := c
    simp only [Memory.write]
    split
    · simp [Memory.read?, Ne.symm h]
    · split
      · rename_i h'
        subst h'
        simp [Memory.read?, Ne.symm h]
      · simp [Memory.read?, ih]

/-- A read after a write: the written byte at its address, the byte of before elsewhere. -/
theorem Memory.read?_write (m : Memory) (k j : Nat) (v : Byte) :
    (m.write k v).read? j = if j = k then some v else m.read? j := by
  split
  · rename_i h
    subst h
    simp
  · exact m.read?_write_ne v ‹_›

theorem Memory.risingFrom_write (m : Memory) {low : Option Nat} {k : Nat} (v : Byte) (hk : k < 2 ^ 32)
    (hl : ∀ l ∈ low, l < k) (h : m.risingFrom low = true) : (m.write k v).risingFrom low = true := by
  induction m generalizing low with
  | nil => cases low <;> simp_all [Memory.write, Memory.risingFrom]
  | cons c m ih =>
    obtain ⟨a, b⟩ := c
    simp only [Memory.risingFrom, Bool.and_eq_true, decide_eq_true_eq] at h
    obtain ⟨⟨hla, ha⟩, hm⟩ := h
    simp only [Memory.write]
    split
    · cases low <;> simp_all [Memory.risingFrom]
    · split
      · rename_i hka
        subst hka
        simp only [Memory.risingFrom, Bool.and_eq_true, decide_eq_true_eq]
        exact ⟨⟨hla, hk⟩, hm⟩
      · have hak : a < k := by omega
        simp only [Memory.risingFrom, Bool.and_eq_true, decide_eq_true_eq]
        exact ⟨⟨hla, ha⟩, ih (by simpa using hak) hm⟩

/-- A write keeps the canonical form. -/
theorem Memory.wf_write {m : Memory} (h : m.wf = true) (k : Word) (v : Byte) : (m.write k.toNat v).wf = true :=
  m.risingFrom_write v k.isLt (by simp) h

@[simp] theorem Memory.store_some (m : Memory) (p : Word) (v : Byte) : m.store (some p) v = m.write p.toNat v := rfl
@[simp] theorem Memory.store_none (m : Memory) (v : Byte) : m.store none v = m := rfl

/-- A read after a store: the stored byte at the target, if there is a target, the byte of before elsewhere (U6). -/
theorem Memory.read?_store (m : Memory) (target : Option Word) (v : Byte) (k : Nat) :
    (m.store target v).read? k = if target.map BitVec.toNat = some k then some v else m.read? k := by
  cases target <;> simp [read?_write, eq_comm]

/-- A store keeps the canonical form. -/
theorem Memory.wf_store {m : Memory} (h : m.wf = true) (target : Option Word) (v : Byte) :
    (m.store target v).wf = true := by
  cases target with
  | none => exact h
  | some p => exact wf_write h p v

/-- No address at or below the bound is listed. -/
theorem Memory.read?_of_risingFrom {m : Memory} {l k : Nat} (h : m.risingFrom (some l) = true) (hk : k ≤ l) :
    m.read? k = none := by
  induction m generalizing l with
  | nil => rfl
  | cons c m ih =>
    obtain ⟨a, b⟩ := c
    simp only [Memory.risingFrom, Bool.and_eq_true, decide_eq_true_eq, Option.all_some] at h
    have hne : a ≠ k := by omega
    simp [Memory.read?, hne, ih h.2 (by omega : k ≤ a)]

theorem Memory.read?_cons_ne {a k : Nat} {b : Byte} (m : Memory) (h : a ≠ k) :
    Memory.read? ((a, b) :: m) k = Memory.read? m k := if_neg h

/-- Memories in canonical form that read the same are the same list. -/
theorem Memory.ext_of_wf {m n : Memory} {low : Option Nat} (hm : m.risingFrom low = true)
    (hn : n.risingFrom low = true) (h : ∀ k, m.read? k = n.read? k) : m = n := by
  induction m generalizing n low with
  | nil =>
    cases n with
    | nil => rfl
    | cons c n =>
      have := h c.1
      simp [Memory.read?] at this
  | cons c m ih =>
    obtain ⟨a, b⟩ := c
    cases n with
    | nil =>
      have := h a
      simp [Memory.read?] at this
    | cons d n =>
      obtain ⟨a', b'⟩ := d
      simp only [Memory.risingFrom, Bool.and_eq_true, decide_eq_true_eq] at hm hn
      have haa : a = a' := by
        rcases Nat.lt_trichotomy a a' with hlt | heq | hlt
        · have h1 := h a
          rw [read?_cons_ne n (by omega), read?_of_risingFrom hn.2 (by omega)] at h1
          simp [Memory.read?] at h1
        · exact heq
        · have h1 := h a'
          rw [read?_cons_ne m (by omega), read?_of_risingFrom hm.2 (by omega)] at h1
          simp [Memory.read?] at h1
      subst haa
      have hb : b = b' := by simpa [Memory.read?] using h a
      subst hb
      congr 1
      refine ih hm.2 hn.2 fun k => ?_
      by_cases hk : k ≤ a
      · rw [Memory.read?_of_risingFrom hm.2 hk, Memory.read?_of_risingFrom hn.2 hk]
      · have := h k
        rwa [read?_cons_ne m (by omega), read?_cons_ne n (by omega)] at this

end Sys2Proof.Machine
end

