-- ==== Sys2Proof/Laws/State.lean ====
section
/-! SUPPORT. One lemma per field per update of the state: what each named operation leaves in each field. Later proofs cite
these and do not unfold an update. -/

namespace Sys2Proof.Machine

variable (s : State)

/-! ### `writeGpr` -/

@[simp] theorem writeGpr_gpr (i : RegIdx) (v : Word) : (s.writeGpr i v).gpr = if i = 0#5 then s.gpr else s.gpr.set i.toNat v i.isLt := rfl
@[simp] theorem writeGpr_operandView (i : RegIdx) (v : Word) : (s.writeGpr i v).operandView = s.operandView := rfl
@[simp] theorem writeGpr_pc (i : RegIdx) (v : Word) : (s.writeGpr i v).pc = s.pc := rfl
@[simp] theorem writeGpr_nextPc (i : RegIdx) (v : Word) : (s.writeGpr i v).nextPc = s.nextPc := rfl
@[simp] theorem writeGpr_currentPc (i : RegIdx) (v : Word) : (s.writeGpr i v).currentPc = s.currentPc := rfl
@[simp] theorem writeGpr_priorPc (i : RegIdx) (v : Word) : (s.writeGpr i v).priorPc = s.priorPc := rfl
@[simp] theorem writeGpr_hi (i : RegIdx) (v : Word) : (s.writeGpr i v).hi = s.hi := rfl
@[simp] theorem writeGpr_lo (i : RegIdx) (v : Word) : (s.writeGpr i v).lo = s.lo := rfl
@[simp] theorem writeGpr_instruction (i : RegIdx) (v : Word) : (s.writeGpr i v).instruction = s.instruction := rfl
@[simp] theorem writeGpr_branchDelayActive (i : RegIdx) (v : Word) : (s.writeGpr i v).branchDelayActive = s.branchDelayActive := rfl
@[simp] theorem writeGpr_branchTaken (i : RegIdx) (v : Word) : (s.writeGpr i v).branchTaken = s.branchTaken := rfl
@[simp] theorem writeGpr_savedBranchDelayActive (i : RegIdx) (v : Word) : (s.writeGpr i v).savedBranchDelayActive = s.savedBranchDelayActive := rfl
@[simp] theorem writeGpr_savedBranchTaken (i : RegIdx) (v : Word) : (s.writeGpr i v).savedBranchTaken = s.savedBranchTaken := rfl
@[simp] theorem writeGpr_pendingLoad (i : RegIdx) (v : Word) : (s.writeGpr i v).pendingLoad = s.pendingLoad := rfl
@[simp] theorem writeGpr_bpc (i : RegIdx) (v : Word) : (s.writeGpr i v).bpc = s.bpc := rfl
@[simp] theorem writeGpr_bda (i : RegIdx) (v : Word) : (s.writeGpr i v).bda = s.bda := rfl
@[simp] theorem writeGpr_dcic (i : RegIdx) (v : Word) : (s.writeGpr i v).dcic = s.dcic := rfl
@[simp] theorem writeGpr_bdam (i : RegIdx) (v : Word) : (s.writeGpr i v).bdam = s.bdam := rfl
@[simp] theorem writeGpr_bpcm (i : RegIdx) (v : Word) : (s.writeGpr i v).bpcm = s.bpcm := rfl
@[simp] theorem writeGpr_jumpDest (i : RegIdx) (v : Word) : (s.writeGpr i v).jumpDest = s.jumpDest := rfl
@[simp] theorem writeGpr_badVAddr (i : RegIdx) (v : Word) : (s.writeGpr i v).badVAddr = s.badVAddr := rfl
@[simp] theorem writeGpr_sr (i : RegIdx) (v : Word) : (s.writeGpr i v).sr = s.sr := rfl
@[simp] theorem writeGpr_cause (i : RegIdx) (v : Word) : (s.writeGpr i v).cause = s.cause := rfl
@[simp] theorem writeGpr_epc (i : RegIdx) (v : Word) : (s.writeGpr i v).epc = s.epc := rfl
@[simp] theorem writeGpr_prid (i : RegIdx) (v : Word) : (s.writeGpr i v).prid = s.prid := rfl
@[simp] theorem writeGpr_extIrq (i : RegIdx) (v : Word) : (s.writeGpr i v).extIrq = s.extIrq := rfl
@[simp] theorem writeGpr_irqFeed (i : RegIdx) (v : Word) : (s.writeGpr i v).irqFeed = s.irqFeed := rfl
@[simp] theorem writeGpr_mem (i : RegIdx) (v : Word) : (s.writeGpr i v).mem = s.mem := rfl
@[simp] theorem writeGpr_busMap (i : RegIdx) (v : Word) : (s.writeGpr i v).busMap = s.busMap := rfl
@[simp] theorem writeGpr_bus (i : RegIdx) (v : Word) : (s.writeGpr i v).bus = s.bus := rfl
@[simp] theorem writeGpr_diag (i : RegIdx) (v : Word) : (s.writeGpr i v).diag = s.diag := rfl
@[simp] theorem writeGpr_cop2 (i : RegIdx) (v : Word) : (s.writeGpr i v).cop2 = s.cop2 := rfl
@[simp] theorem writeGpr_freeCount (i : RegIdx) (v : Word) : (s.writeGpr i v).freeCount = s.freeCount := rfl

/-! ### `stageLoad` -/

@[simp] theorem stageLoad_gpr (i : RegIdx) (v : Word) : (s.stageLoad i v).gpr = s.gpr := rfl
@[simp] theorem stageLoad_operandView (i : RegIdx) (v : Word) : (s.stageLoad i v).operandView = s.operandView := rfl
@[simp] theorem stageLoad_pc (i : RegIdx) (v : Word) : (s.stageLoad i v).pc = s.pc := rfl
@[simp] theorem stageLoad_nextPc (i : RegIdx) (v : Word) : (s.stageLoad i v).nextPc = s.nextPc := rfl
@[simp] theorem stageLoad_currentPc (i : RegIdx) (v : Word) : (s.stageLoad i v).currentPc = s.currentPc := rfl
@[simp] theorem stageLoad_priorPc (i : RegIdx) (v : Word) : (s.stageLoad i v).priorPc = s.priorPc := rfl
@[simp] theorem stageLoad_hi (i : RegIdx) (v : Word) : (s.stageLoad i v).hi = s.hi := rfl
@[simp] theorem stageLoad_lo (i : RegIdx) (v : Word) : (s.stageLoad i v).lo = s.lo := rfl
@[simp] theorem stageLoad_instruction (i : RegIdx) (v : Word) : (s.stageLoad i v).instruction = s.instruction := rfl
@[simp] theorem stageLoad_branchDelayActive (i : RegIdx) (v : Word) : (s.stageLoad i v).branchDelayActive = s.branchDelayActive := rfl
@[simp] theorem stageLoad_branchTaken (i : RegIdx) (v : Word) : (s.stageLoad i v).branchTaken = s.branchTaken := rfl
@[simp] theorem stageLoad_savedBranchDelayActive (i : RegIdx) (v : Word) : (s.stageLoad i v).savedBranchDelayActive = s.savedBranchDelayActive := rfl
@[simp] theorem stageLoad_savedBranchTaken (i : RegIdx) (v : Word) : (s.stageLoad i v).savedBranchTaken = s.savedBranchTaken := rfl
@[simp] theorem stageLoad_pendingLoad (i : RegIdx) (v : Word) : (s.stageLoad i v).pendingLoad = some { index := i, old := s.xpost i, new := v } := rfl
@[simp] theorem stageLoad_bpc (i : RegIdx) (v : Word) : (s.stageLoad i v).bpc = s.bpc := rfl
@[simp] theorem stageLoad_bda (i : RegIdx) (v : Word) : (s.stageLoad i v).bda = s.bda := rfl
@[simp] theorem stageLoad_dcic (i : RegIdx) (v : Word) : (s.stageLoad i v).dcic = s.dcic := rfl
@[simp] theorem stageLoad_bdam (i : RegIdx) (v : Word) : (s.stageLoad i v).bdam = s.bdam := rfl
@[simp] theorem stageLoad_bpcm (i : RegIdx) (v : Word) : (s.stageLoad i v).bpcm = s.bpcm := rfl
@[simp] theorem stageLoad_jumpDest (i : RegIdx) (v : Word) : (s.stageLoad i v).jumpDest = s.jumpDest := rfl
@[simp] theorem stageLoad_badVAddr (i : RegIdx) (v : Word) : (s.stageLoad i v).badVAddr = s.badVAddr := rfl
@[simp] theorem stageLoad_sr (i : RegIdx) (v : Word) : (s.stageLoad i v).sr = s.sr := rfl
@[simp] theorem stageLoad_cause (i : RegIdx) (v : Word) : (s.stageLoad i v).cause = s.cause := rfl
@[simp] theorem stageLoad_epc (i : RegIdx) (v : Word) : (s.stageLoad i v).epc = s.epc := rfl
@[simp] theorem stageLoad_prid (i : RegIdx) (v : Word) : (s.stageLoad i v).prid = s.prid := rfl
@[simp] theorem stageLoad_extIrq (i : RegIdx) (v : Word) : (s.stageLoad i v).extIrq = s.extIrq := rfl
@[simp] theorem stageLoad_irqFeed (i : RegIdx) (v : Word) : (s.stageLoad i v).irqFeed = s.irqFeed := rfl
@[simp] theorem stageLoad_mem (i : RegIdx) (v : Word) : (s.stageLoad i v).mem = s.mem := rfl
@[simp] theorem stageLoad_busMap (i : RegIdx) (v : Word) : (s.stageLoad i v).busMap = s.busMap := rfl
@[simp] theorem stageLoad_bus (i : RegIdx) (v : Word) : (s.stageLoad i v).bus = s.bus := rfl
@[simp] theorem stageLoad_diag (i : RegIdx) (v : Word) : (s.stageLoad i v).diag = s.diag := rfl
@[simp] theorem stageLoad_cop2 (i : RegIdx) (v : Word) : (s.stageLoad i v).cop2 = s.cop2 := rfl
@[simp] theorem stageLoad_freeCount (i : RegIdx) (v : Word) : (s.stageLoad i v).freeCount = s.freeCount := rfl

/-! ### `writeHiLo` -/

@[simp] theorem writeHiLo_gpr (h l : Word) : (s.writeHiLo h l).gpr = s.gpr := rfl
@[simp] theorem writeHiLo_operandView (h l : Word) : (s.writeHiLo h l).operandView = s.operandView := rfl
@[simp] theorem writeHiLo_pc (h l : Word) : (s.writeHiLo h l).pc = s.pc := rfl
@[simp] theorem writeHiLo_nextPc (h l : Word) : (s.writeHiLo h l).nextPc = s.nextPc := rfl
@[simp] theorem writeHiLo_currentPc (h l : Word) : (s.writeHiLo h l).currentPc = s.currentPc := rfl
@[simp] theorem writeHiLo_priorPc (h l : Word) : (s.writeHiLo h l).priorPc = s.priorPc := rfl
@[simp] theorem writeHiLo_hi (h l : Word) : (s.writeHiLo h l).hi = h := rfl
@[simp] theorem writeHiLo_lo (h l : Word) : (s.writeHiLo h l).lo = l := rfl
@[simp] theorem writeHiLo_instruction (h l : Word) : (s.writeHiLo h l).instruction = s.instruction := rfl
@[simp] theorem writeHiLo_branchDelayActive (h l : Word) : (s.writeHiLo h l).branchDelayActive = s.branchDelayActive := rfl
@[simp] theorem writeHiLo_branchTaken (h l : Word) : (s.writeHiLo h l).branchTaken = s.branchTaken := rfl
@[simp] theorem writeHiLo_savedBranchDelayActive (h l : Word) : (s.writeHiLo h l).savedBranchDelayActive = s.savedBranchDelayActive := rfl
@[simp] theorem writeHiLo_savedBranchTaken (h l : Word) : (s.writeHiLo h l).savedBranchTaken = s.savedBranchTaken := rfl
@[simp] theorem writeHiLo_pendingLoad (h l : Word) : (s.writeHiLo h l).pendingLoad = s.pendingLoad := rfl
@[simp] theorem writeHiLo_bpc (h l : Word) : (s.writeHiLo h l).bpc = s.bpc := rfl
@[simp] theorem writeHiLo_bda (h l : Word) : (s.writeHiLo h l).bda = s.bda := rfl
@[simp] theorem writeHiLo_dcic (h l : Word) : (s.writeHiLo h l).dcic = s.dcic := rfl
@[simp] theorem writeHiLo_bdam (h l : Word) : (s.writeHiLo h l).bdam = s.bdam := rfl
@[simp] theorem writeHiLo_bpcm (h l : Word) : (s.writeHiLo h l).bpcm = s.bpcm := rfl
@[simp] theorem writeHiLo_jumpDest (h l : Word) : (s.writeHiLo h l).jumpDest = s.jumpDest := rfl
@[simp] theorem writeHiLo_badVAddr (h l : Word) : (s.writeHiLo h l).badVAddr = s.badVAddr := rfl
@[simp] theorem writeHiLo_sr (h l : Word) : (s.writeHiLo h l).sr = s.sr := rfl
@[simp] theorem writeHiLo_cause (h l : Word) : (s.writeHiLo h l).cause = s.cause := rfl
@[simp] theorem writeHiLo_epc (h l : Word) : (s.writeHiLo h l).epc = s.epc := rfl
@[simp] theorem writeHiLo_prid (h l : Word) : (s.writeHiLo h l).prid = s.prid := rfl
@[simp] theorem writeHiLo_extIrq (h l : Word) : (s.writeHiLo h l).extIrq = s.extIrq := rfl
@[simp] theorem writeHiLo_irqFeed (h l : Word) : (s.writeHiLo h l).irqFeed = s.irqFeed := rfl
@[simp] theorem writeHiLo_mem (h l : Word) : (s.writeHiLo h l).mem = s.mem := rfl
@[simp] theorem writeHiLo_busMap (h l : Word) : (s.writeHiLo h l).busMap = s.busMap := rfl
@[simp] theorem writeHiLo_bus (h l : Word) : (s.writeHiLo h l).bus = s.bus := rfl
@[simp] theorem writeHiLo_diag (h l : Word) : (s.writeHiLo h l).diag = s.diag := rfl
@[simp] theorem writeHiLo_cop2 (h l : Word) : (s.writeHiLo h l).cop2 = s.cop2 := rfl
@[simp] theorem writeHiLo_freeCount (h l : Word) : (s.writeHiLo h l).freeCount = s.freeCount := rfl

/-! ### `afterRead` -/

@[simp] theorem afterRead_gpr (w : BusWidth) (a d : Word) : (s.afterRead w a d).gpr = s.gpr := rfl
@[simp] theorem afterRead_operandView (w : BusWidth) (a d : Word) : (s.afterRead w a d).operandView = s.operandView := rfl
@[simp] theorem afterRead_pc (w : BusWidth) (a d : Word) : (s.afterRead w a d).pc = s.pc := rfl
@[simp] theorem afterRead_nextPc (w : BusWidth) (a d : Word) : (s.afterRead w a d).nextPc = s.nextPc := rfl
@[simp] theorem afterRead_currentPc (w : BusWidth) (a d : Word) : (s.afterRead w a d).currentPc = s.currentPc := rfl
@[simp] theorem afterRead_priorPc (w : BusWidth) (a d : Word) : (s.afterRead w a d).priorPc = s.priorPc := rfl
@[simp] theorem afterRead_hi (w : BusWidth) (a d : Word) : (s.afterRead w a d).hi = s.hi := rfl
@[simp] theorem afterRead_lo (w : BusWidth) (a d : Word) : (s.afterRead w a d).lo = s.lo := rfl
@[simp] theorem afterRead_instruction (w : BusWidth) (a d : Word) : (s.afterRead w a d).instruction = s.instruction := rfl
@[simp] theorem afterRead_branchDelayActive (w : BusWidth) (a d : Word) : (s.afterRead w a d).branchDelayActive = s.branchDelayActive := rfl
@[simp] theorem afterRead_branchTaken (w : BusWidth) (a d : Word) : (s.afterRead w a d).branchTaken = s.branchTaken := rfl
@[simp] theorem afterRead_savedBranchDelayActive (w : BusWidth) (a d : Word) : (s.afterRead w a d).savedBranchDelayActive = s.savedBranchDelayActive := rfl
@[simp] theorem afterRead_savedBranchTaken (w : BusWidth) (a d : Word) : (s.afterRead w a d).savedBranchTaken = s.savedBranchTaken := rfl
@[simp] theorem afterRead_pendingLoad (w : BusWidth) (a d : Word) : (s.afterRead w a d).pendingLoad = s.pendingLoad := rfl
@[simp] theorem afterRead_bpc (w : BusWidth) (a d : Word) : (s.afterRead w a d).bpc = s.bpc := rfl
@[simp] theorem afterRead_bda (w : BusWidth) (a d : Word) : (s.afterRead w a d).bda = s.bda := rfl
@[simp] theorem afterRead_dcic (w : BusWidth) (a d : Word) : (s.afterRead w a d).dcic = s.dcic := rfl
@[simp] theorem afterRead_bdam (w : BusWidth) (a d : Word) : (s.afterRead w a d).bdam = s.bdam := rfl
@[simp] theorem afterRead_bpcm (w : BusWidth) (a d : Word) : (s.afterRead w a d).bpcm = s.bpcm := rfl
@[simp] theorem afterRead_jumpDest (w : BusWidth) (a d : Word) : (s.afterRead w a d).jumpDest = s.jumpDest := rfl
@[simp] theorem afterRead_badVAddr (w : BusWidth) (a d : Word) : (s.afterRead w a d).badVAddr = s.badVAddr := rfl
@[simp] theorem afterRead_sr (w : BusWidth) (a d : Word) : (s.afterRead w a d).sr = s.sr := rfl
@[simp] theorem afterRead_cause (w : BusWidth) (a d : Word) : (s.afterRead w a d).cause = s.cause := rfl
@[simp] theorem afterRead_epc (w : BusWidth) (a d : Word) : (s.afterRead w a d).epc = s.epc := rfl
@[simp] theorem afterRead_prid (w : BusWidth) (a d : Word) : (s.afterRead w a d).prid = s.prid := rfl
@[simp] theorem afterRead_extIrq (w : BusWidth) (a d : Word) : (s.afterRead w a d).extIrq = s.extIrq := rfl
@[simp] theorem afterRead_irqFeed (w : BusWidth) (a d : Word) : (s.afterRead w a d).irqFeed = s.irqFeed := rfl
@[simp] theorem afterRead_mem (w : BusWidth) (a d : Word) : (s.afterRead w a d).mem = s.mem := rfl
@[simp] theorem afterRead_busMap (w : BusWidth) (a d : Word) : (s.afterRead w a d).busMap = s.busMap := rfl
@[simp] theorem afterRead_bus (w : BusWidth) (a d : Word) : (s.afterRead w a d).bus = s.bus ++ [⟨.read, w, a, d⟩] := rfl
@[simp] theorem afterRead_diag (w : BusWidth) (a d : Word) : (s.afterRead w a d).diag = s.diag := rfl
@[simp] theorem afterRead_cop2 (w : BusWidth) (a d : Word) : (s.afterRead w a d).cop2 = s.cop2 := rfl
@[simp] theorem afterRead_freeCount (w : BusWidth) (a d : Word) : (s.afterRead w a d).freeCount = s.freeCount + 1 := rfl

/-! ### `afterWrite` -/

@[simp] theorem afterWrite_gpr (w : BusWidth) (a d : Word) (m : Memory) : (s.afterWrite w a d m).gpr = s.gpr := rfl
@[simp] theorem afterWrite_operandView (w : BusWidth) (a d : Word) (m : Memory) : (s.afterWrite w a d m).operandView = s.operandView := rfl
@[simp] theorem afterWrite_pc (w : BusWidth) (a d : Word) (m : Memory) : (s.afterWrite w a d m).pc = s.pc := rfl
@[simp] theorem afterWrite_nextPc (w : BusWidth) (a d : Word) (m : Memory) : (s.afterWrite w a d m).nextPc = s.nextPc := rfl
@[simp] theorem afterWrite_currentPc (w : BusWidth) (a d : Word) (m : Memory) : (s.afterWrite w a d m).currentPc = s.currentPc := rfl
@[simp] theorem afterWrite_priorPc (w : BusWidth) (a d : Word) (m : Memory) : (s.afterWrite w a d m).priorPc = s.priorPc := rfl
@[simp] theorem afterWrite_hi (w : BusWidth) (a d : Word) (m : Memory) : (s.afterWrite w a d m).hi = s.hi := rfl
@[simp] theorem afterWrite_lo (w : BusWidth) (a d : Word) (m : Memory) : (s.afterWrite w a d m).lo = s.lo := rfl
@[simp] theorem afterWrite_instruction (w : BusWidth) (a d : Word) (m : Memory) : (s.afterWrite w a d m).instruction = s.instruction := rfl
@[simp] theorem afterWrite_branchDelayActive (w : BusWidth) (a d : Word) (m : Memory) : (s.afterWrite w a d m).branchDelayActive = s.branchDelayActive := rfl
@[simp] theorem afterWrite_branchTaken (w : BusWidth) (a d : Word) (m : Memory) : (s.afterWrite w a d m).branchTaken = s.branchTaken := rfl
@[simp] theorem afterWrite_savedBranchDelayActive (w : BusWidth) (a d : Word) (m : Memory) : (s.afterWrite w a d m).savedBranchDelayActive = s.savedBranchDelayActive := rfl
@[simp] theorem afterWrite_savedBranchTaken (w : BusWidth) (a d : Word) (m : Memory) : (s.afterWrite w a d m).savedBranchTaken = s.savedBranchTaken := rfl
@[simp] theorem afterWrite_pendingLoad (w : BusWidth) (a d : Word) (m : Memory) : (s.afterWrite w a d m).pendingLoad = s.pendingLoad := rfl
@[simp] theorem afterWrite_bpc (w : BusWidth) (a d : Word) (m : Memory) : (s.afterWrite w a d m).bpc = s.bpc := rfl
@[simp] theorem afterWrite_bda (w : BusWidth) (a d : Word) (m : Memory) : (s.afterWrite w a d m).bda = s.bda := rfl
@[simp] theorem afterWrite_dcic (w : BusWidth) (a d : Word) (m : Memory) : (s.afterWrite w a d m).dcic = s.dcic := rfl
@[simp] theorem afterWrite_bdam (w : BusWidth) (a d : Word) (m : Memory) : (s.afterWrite w a d m).bdam = s.bdam := rfl
@[simp] theorem afterWrite_bpcm (w : BusWidth) (a d : Word) (m : Memory) : (s.afterWrite w a d m).bpcm = s.bpcm := rfl
@[simp] theorem afterWrite_jumpDest (w : BusWidth) (a d : Word) (m : Memory) : (s.afterWrite w a d m).jumpDest = s.jumpDest := rfl
@[simp] theorem afterWrite_badVAddr (w : BusWidth) (a d : Word) (m : Memory) : (s.afterWrite w a d m).badVAddr = s.badVAddr := rfl
@[simp] theorem afterWrite_sr (w : BusWidth) (a d : Word) (m : Memory) : (s.afterWrite w a d m).sr = s.sr := rfl
@[simp] theorem afterWrite_cause (w : BusWidth) (a d : Word) (m : Memory) : (s.afterWrite w a d m).cause = s.cause := rfl
@[simp] theorem afterWrite_epc (w : BusWidth) (a d : Word) (m : Memory) : (s.afterWrite w a d m).epc = s.epc := rfl
@[simp] theorem afterWrite_prid (w : BusWidth) (a d : Word) (m : Memory) : (s.afterWrite w a d m).prid = s.prid := rfl
@[simp] theorem afterWrite_extIrq (w : BusWidth) (a d : Word) (m : Memory) : (s.afterWrite w a d m).extIrq = s.extIrq := rfl
@[simp] theorem afterWrite_irqFeed (w : BusWidth) (a d : Word) (m : Memory) : (s.afterWrite w a d m).irqFeed = s.irqFeed := rfl
@[simp] theorem afterWrite_mem (w : BusWidth) (a d : Word) (m : Memory) : (s.afterWrite w a d m).mem = m := rfl
@[simp] theorem afterWrite_busMap (w : BusWidth) (a d : Word) (m : Memory) : (s.afterWrite w a d m).busMap = s.busMap := rfl
@[simp] theorem afterWrite_bus (w : BusWidth) (a d : Word) (m : Memory) : (s.afterWrite w a d m).bus = s.bus ++ [⟨.write, w, a, d⟩] := rfl
@[simp] theorem afterWrite_diag (w : BusWidth) (a d : Word) (m : Memory) : (s.afterWrite w a d m).diag = s.diag := rfl
@[simp] theorem afterWrite_cop2 (w : BusWidth) (a d : Word) (m : Memory) : (s.afterWrite w a d m).cop2 = s.cop2 := rfl
@[simp] theorem afterWrite_freeCount (w : BusWidth) (a d : Word) (m : Memory) : (s.afterWrite w a d m).freeCount = s.freeCount := rfl

/-! ### `enterException` -/

@[simp] theorem enterException_gpr (c : ExcCause) (v n : Word) : (s.enterException c v n).gpr = s.gpr := rfl
@[simp] theorem enterException_operandView (c : ExcCause) (v n : Word) : (s.enterException c v n).operandView = s.operandView := rfl
@[simp] theorem enterException_pc (c : ExcCause) (v n : Word) : (s.enterException c v n).pc = c.vector s.bev := rfl
@[simp] theorem enterException_nextPc (c : ExcCause) (v n : Word) : (s.enterException c v n).nextPc = c.vector s.bev + 4#32 := rfl
@[simp] theorem enterException_currentPc (c : ExcCause) (v n : Word) : (s.enterException c v n).currentPc = s.currentPc := rfl
@[simp] theorem enterException_priorPc (c : ExcCause) (v n : Word) : (s.enterException c v n).priorPc = s.priorPc := rfl
@[simp] theorem enterException_hi (c : ExcCause) (v n : Word) : (s.enterException c v n).hi = s.hi := rfl
@[simp] theorem enterException_lo (c : ExcCause) (v n : Word) : (s.enterException c v n).lo = s.lo := rfl
@[simp] theorem enterException_instruction (c : ExcCause) (v n : Word) : (s.enterException c v n).instruction = s.instruction := rfl
@[simp] theorem enterException_branchDelayActive (c : ExcCause) (v n : Word) : (s.enterException c v n).branchDelayActive = s.branchDelayActive := rfl
@[simp] theorem enterException_branchTaken (c : ExcCause) (v n : Word) : (s.enterException c v n).branchTaken = s.branchTaken := rfl
@[simp] theorem enterException_savedBranchDelayActive (c : ExcCause) (v n : Word) : (s.enterException c v n).savedBranchDelayActive = s.savedBranchDelayActive := rfl
@[simp] theorem enterException_savedBranchTaken (c : ExcCause) (v n : Word) : (s.enterException c v n).savedBranchTaken = s.savedBranchTaken := rfl
@[simp] theorem enterException_pendingLoad (c : ExcCause) (v n : Word) : (s.enterException c v n).pendingLoad = s.pendingLoad := rfl
@[simp] theorem enterException_bpc (c : ExcCause) (v n : Word) : (s.enterException c v n).bpc = s.bpc := rfl
@[simp] theorem enterException_bda (c : ExcCause) (v n : Word) : (s.enterException c v n).bda = s.bda := rfl
@[simp] theorem enterException_dcic (c : ExcCause) (v n : Word) : (s.enterException c v n).dcic = s.dcic := rfl
@[simp] theorem enterException_bdam (c : ExcCause) (v n : Word) : (s.enterException c v n).bdam = s.bdam := rfl
@[simp] theorem enterException_bpcm (c : ExcCause) (v n : Word) : (s.enterException c v n).bpcm = s.bpcm := rfl
@[simp] theorem enterException_jumpDest (c : ExcCause) (v n : Word) : (s.enterException c v n).jumpDest = if s.savedBranchDelayActive then n else s.jumpDest := rfl
@[simp] theorem enterException_badVAddr (c : ExcCause) (v n : Word) : (s.enterException c v n).badVAddr = s.badVAddr := rfl
@[simp] theorem enterException_sr (c : ExcCause) (v n : Word) : (s.enterException c v n).sr = pushPrivilege s.sr := rfl
@[simp] theorem enterException_cause (c : ExcCause) (v n : Word) : (s.enterException c v n).cause = { bd := s.savedBranchDelayActive, ip := s.cause.ip, excCode := c.code } := rfl
@[simp] theorem enterException_epc (c : ExcCause) (v n : Word) : (s.enterException c v n).epc = if s.savedBranchDelayActive then s.slotEpc v else v := rfl
@[simp] theorem enterException_prid (c : ExcCause) (v n : Word) : (s.enterException c v n).prid = s.prid := rfl
@[simp] theorem enterException_extIrq (c : ExcCause) (v n : Word) : (s.enterException c v n).extIrq = s.extIrq := rfl
@[simp] theorem enterException_irqFeed (c : ExcCause) (v n : Word) : (s.enterException c v n).irqFeed = s.irqFeed := rfl
@[simp] theorem enterException_mem (c : ExcCause) (v n : Word) : (s.enterException c v n).mem = s.mem := rfl
@[simp] theorem enterException_busMap (c : ExcCause) (v n : Word) : (s.enterException c v n).busMap = s.busMap := rfl
@[simp] theorem enterException_bus (c : ExcCause) (v n : Word) : (s.enterException c v n).bus = s.bus := rfl
@[simp] theorem enterException_diag (c : ExcCause) (v n : Word) : (s.enterException c v n).diag = s.diag := rfl
@[simp] theorem enterException_cop2 (c : ExcCause) (v n : Word) : (s.enterException c v n).cop2 = s.cop2 := rfl
@[simp] theorem enterException_freeCount (c : ExcCause) (v n : Word) : (s.enterException c v n).freeCount = s.freeCount := rfl

/-! ### `returnFromException` -/

@[simp] theorem returnFromException_gpr : (s.returnFromException).gpr = s.gpr := rfl
@[simp] theorem returnFromException_operandView : (s.returnFromException).operandView = s.operandView := rfl
@[simp] theorem returnFromException_pc : (s.returnFromException).pc = s.pc := rfl
@[simp] theorem returnFromException_nextPc : (s.returnFromException).nextPc = s.nextPc := rfl
@[simp] theorem returnFromException_currentPc : (s.returnFromException).currentPc = s.currentPc := rfl
@[simp] theorem returnFromException_priorPc : (s.returnFromException).priorPc = s.priorPc := rfl
@[simp] theorem returnFromException_hi : (s.returnFromException).hi = s.hi := rfl
@[simp] theorem returnFromException_lo : (s.returnFromException).lo = s.lo := rfl
@[simp] theorem returnFromException_instruction : (s.returnFromException).instruction = s.instruction := rfl
@[simp] theorem returnFromException_branchDelayActive : (s.returnFromException).branchDelayActive = s.branchDelayActive := rfl
@[simp] theorem returnFromException_branchTaken : (s.returnFromException).branchTaken = s.branchTaken := rfl
@[simp] theorem returnFromException_savedBranchDelayActive : (s.returnFromException).savedBranchDelayActive = s.savedBranchDelayActive := rfl
@[simp] theorem returnFromException_savedBranchTaken : (s.returnFromException).savedBranchTaken = s.savedBranchTaken := rfl
@[simp] theorem returnFromException_pendingLoad : (s.returnFromException).pendingLoad = s.pendingLoad := rfl
@[simp] theorem returnFromException_bpc : (s.returnFromException).bpc = s.bpc := rfl
@[simp] theorem returnFromException_bda : (s.returnFromException).bda = s.bda := rfl
@[simp] theorem returnFromException_dcic : (s.returnFromException).dcic = s.dcic := rfl
@[simp] theorem returnFromException_bdam : (s.returnFromException).bdam = s.bdam := rfl
@[simp] theorem returnFromException_bpcm : (s.returnFromException).bpcm = s.bpcm := rfl
@[simp] theorem returnFromException_jumpDest : (s.returnFromException).jumpDest = s.jumpDest := rfl
@[simp] theorem returnFromException_badVAddr : (s.returnFromException).badVAddr = s.badVAddr := rfl
@[simp] theorem returnFromException_sr : (s.returnFromException).sr = popPrivilege s.sr := rfl
@[simp] theorem returnFromException_cause : (s.returnFromException).cause = s.cause := rfl
@[simp] theorem returnFromException_epc : (s.returnFromException).epc = s.epc := rfl
@[simp] theorem returnFromException_prid : (s.returnFromException).prid = s.prid := rfl
@[simp] theorem returnFromException_extIrq : (s.returnFromException).extIrq = s.extIrq := rfl
@[simp] theorem returnFromException_irqFeed : (s.returnFromException).irqFeed = s.irqFeed := rfl
@[simp] theorem returnFromException_mem : (s.returnFromException).mem = s.mem := rfl
@[simp] theorem returnFromException_busMap : (s.returnFromException).busMap = s.busMap := rfl
@[simp] theorem returnFromException_bus : (s.returnFromException).bus = s.bus := rfl
@[simp] theorem returnFromException_diag : (s.returnFromException).diag = s.diag := rfl
@[simp] theorem returnFromException_cop2 : (s.returnFromException).cop2 = s.cop2 := rfl
@[simp] theorem returnFromException_freeCount : (s.returnFromException).freeCount = s.freeCount := rfl

/-! ### `branchTo` -/

@[simp] theorem branchTo_gpr (taken : Bool) (t : Word) : (s.branchTo taken t).gpr = s.gpr := rfl
@[simp] theorem branchTo_operandView (taken : Bool) (t : Word) : (s.branchTo taken t).operandView = s.operandView := rfl
@[simp] theorem branchTo_pc (taken : Bool) (t : Word) : (s.branchTo taken t).pc = s.pc := rfl
@[simp] theorem branchTo_nextPc (taken : Bool) (t : Word) : (s.branchTo taken t).nextPc = if taken then t else s.nextPc := rfl
@[simp] theorem branchTo_currentPc (taken : Bool) (t : Word) : (s.branchTo taken t).currentPc = s.currentPc := rfl
@[simp] theorem branchTo_priorPc (taken : Bool) (t : Word) : (s.branchTo taken t).priorPc = s.priorPc := rfl
@[simp] theorem branchTo_hi (taken : Bool) (t : Word) : (s.branchTo taken t).hi = s.hi := rfl
@[simp] theorem branchTo_lo (taken : Bool) (t : Word) : (s.branchTo taken t).lo = s.lo := rfl
@[simp] theorem branchTo_instruction (taken : Bool) (t : Word) : (s.branchTo taken t).instruction = s.instruction := rfl
@[simp] theorem branchTo_branchDelayActive (taken : Bool) (t : Word) : (s.branchTo taken t).branchDelayActive = true := rfl
@[simp] theorem branchTo_branchTaken (taken : Bool) (t : Word) : (s.branchTo taken t).branchTaken = taken := rfl
@[simp] theorem branchTo_savedBranchDelayActive (taken : Bool) (t : Word) : (s.branchTo taken t).savedBranchDelayActive = s.savedBranchDelayActive := rfl
@[simp] theorem branchTo_savedBranchTaken (taken : Bool) (t : Word) : (s.branchTo taken t).savedBranchTaken = s.savedBranchTaken := rfl
@[simp] theorem branchTo_pendingLoad (taken : Bool) (t : Word) : (s.branchTo taken t).pendingLoad = s.pendingLoad := rfl
@[simp] theorem branchTo_bpc (taken : Bool) (t : Word) : (s.branchTo taken t).bpc = s.bpc := rfl
@[simp] theorem branchTo_bda (taken : Bool) (t : Word) : (s.branchTo taken t).bda = s.bda := rfl
@[simp] theorem branchTo_dcic (taken : Bool) (t : Word) : (s.branchTo taken t).dcic = s.dcic := rfl
@[simp] theorem branchTo_bdam (taken : Bool) (t : Word) : (s.branchTo taken t).bdam = s.bdam := rfl
@[simp] theorem branchTo_bpcm (taken : Bool) (t : Word) : (s.branchTo taken t).bpcm = s.bpcm := rfl
@[simp] theorem branchTo_jumpDest (taken : Bool) (t : Word) : (s.branchTo taken t).jumpDest = s.jumpDest := rfl
@[simp] theorem branchTo_badVAddr (taken : Bool) (t : Word) : (s.branchTo taken t).badVAddr = s.badVAddr := rfl
@[simp] theorem branchTo_sr (taken : Bool) (t : Word) : (s.branchTo taken t).sr = s.sr := rfl
@[simp] theorem branchTo_cause (taken : Bool) (t : Word) : (s.branchTo taken t).cause = s.cause := rfl
@[simp] theorem branchTo_epc (taken : Bool) (t : Word) : (s.branchTo taken t).epc = s.epc := rfl
@[simp] theorem branchTo_prid (taken : Bool) (t : Word) : (s.branchTo taken t).prid = s.prid := rfl
@[simp] theorem branchTo_extIrq (taken : Bool) (t : Word) : (s.branchTo taken t).extIrq = s.extIrq := rfl
@[simp] theorem branchTo_irqFeed (taken : Bool) (t : Word) : (s.branchTo taken t).irqFeed = s.irqFeed := rfl
@[simp] theorem branchTo_mem (taken : Bool) (t : Word) : (s.branchTo taken t).mem = s.mem := rfl
@[simp] theorem branchTo_busMap (taken : Bool) (t : Word) : (s.branchTo taken t).busMap = s.busMap := rfl
@[simp] theorem branchTo_bus (taken : Bool) (t : Word) : (s.branchTo taken t).bus = s.bus := rfl
@[simp] theorem branchTo_diag (taken : Bool) (t : Word) : (s.branchTo taken t).diag = s.diag := rfl
@[simp] theorem branchTo_cop2 (taken : Bool) (t : Word) : (s.branchTo taken t).cop2 = s.cop2 := rfl
@[simp] theorem branchTo_freeCount (taken : Bool) (t : Word) : (s.branchTo taken t).freeCount = s.freeCount := rfl

/-! ### `pulseDiag` -/

@[simp] theorem pulseDiag_gpr : (s.pulseDiag).gpr = s.gpr := rfl
@[simp] theorem pulseDiag_operandView : (s.pulseDiag).operandView = s.operandView := rfl
@[simp] theorem pulseDiag_pc : (s.pulseDiag).pc = s.pc := rfl
@[simp] theorem pulseDiag_nextPc : (s.pulseDiag).nextPc = s.nextPc := rfl
@[simp] theorem pulseDiag_currentPc : (s.pulseDiag).currentPc = s.currentPc := rfl
@[simp] theorem pulseDiag_priorPc : (s.pulseDiag).priorPc = s.priorPc := rfl
@[simp] theorem pulseDiag_hi : (s.pulseDiag).hi = s.hi := rfl
@[simp] theorem pulseDiag_lo : (s.pulseDiag).lo = s.lo := rfl
@[simp] theorem pulseDiag_instruction : (s.pulseDiag).instruction = s.instruction := rfl
@[simp] theorem pulseDiag_branchDelayActive : (s.pulseDiag).branchDelayActive = s.branchDelayActive := rfl
@[simp] theorem pulseDiag_branchTaken : (s.pulseDiag).branchTaken = s.branchTaken := rfl
@[simp] theorem pulseDiag_savedBranchDelayActive : (s.pulseDiag).savedBranchDelayActive = s.savedBranchDelayActive := rfl
@[simp] theorem pulseDiag_savedBranchTaken : (s.pulseDiag).savedBranchTaken = s.savedBranchTaken := rfl
@[simp] theorem pulseDiag_pendingLoad : (s.pulseDiag).pendingLoad = s.pendingLoad := rfl
@[simp] theorem pulseDiag_bpc : (s.pulseDiag).bpc = s.bpc := rfl
@[simp] theorem pulseDiag_bda : (s.pulseDiag).bda = s.bda := rfl
@[simp] theorem pulseDiag_dcic : (s.pulseDiag).dcic = s.dcic := rfl
@[simp] theorem pulseDiag_bdam : (s.pulseDiag).bdam = s.bdam := rfl
@[simp] theorem pulseDiag_bpcm : (s.pulseDiag).bpcm = s.bpcm := rfl
@[simp] theorem pulseDiag_jumpDest : (s.pulseDiag).jumpDest = s.jumpDest := rfl
@[simp] theorem pulseDiag_badVAddr : (s.pulseDiag).badVAddr = s.badVAddr := rfl
@[simp] theorem pulseDiag_sr : (s.pulseDiag).sr = s.sr := rfl
@[simp] theorem pulseDiag_cause : (s.pulseDiag).cause = s.cause := rfl
@[simp] theorem pulseDiag_epc : (s.pulseDiag).epc = s.epc := rfl
@[simp] theorem pulseDiag_prid : (s.pulseDiag).prid = s.prid := rfl
@[simp] theorem pulseDiag_extIrq : (s.pulseDiag).extIrq = s.extIrq := rfl
@[simp] theorem pulseDiag_irqFeed : (s.pulseDiag).irqFeed = s.irqFeed := rfl
@[simp] theorem pulseDiag_mem : (s.pulseDiag).mem = s.mem := rfl
@[simp] theorem pulseDiag_busMap : (s.pulseDiag).busMap = s.busMap := rfl
@[simp] theorem pulseDiag_bus : (s.pulseDiag).bus = s.bus := rfl
@[simp] theorem pulseDiag_diag : (s.pulseDiag).diag = some ⟨s.instruction, s.currentPc⟩ := rfl
@[simp] theorem pulseDiag_cop2 : (s.pulseDiag).cop2 = s.cop2 := rfl
@[simp] theorem pulseDiag_freeCount : (s.pulseDiag).freeCount = s.freeCount := rfl

/-! ### `presentCop2` -/

@[simp] theorem presentCop2_gpr (a v : Option Word) : (s.presentCop2 a v).gpr = s.gpr := rfl
@[simp] theorem presentCop2_operandView (a v : Option Word) : (s.presentCop2 a v).operandView = s.operandView := rfl
@[simp] theorem presentCop2_pc (a v : Option Word) : (s.presentCop2 a v).pc = s.pc := rfl
@[simp] theorem presentCop2_nextPc (a v : Option Word) : (s.presentCop2 a v).nextPc = s.nextPc := rfl
@[simp] theorem presentCop2_currentPc (a v : Option Word) : (s.presentCop2 a v).currentPc = s.currentPc := rfl
@[simp] theorem presentCop2_priorPc (a v : Option Word) : (s.presentCop2 a v).priorPc = s.priorPc := rfl
@[simp] theorem presentCop2_hi (a v : Option Word) : (s.presentCop2 a v).hi = s.hi := rfl
@[simp] theorem presentCop2_lo (a v : Option Word) : (s.presentCop2 a v).lo = s.lo := rfl
@[simp] theorem presentCop2_instruction (a v : Option Word) : (s.presentCop2 a v).instruction = s.instruction := rfl
@[simp] theorem presentCop2_branchDelayActive (a v : Option Word) : (s.presentCop2 a v).branchDelayActive = s.branchDelayActive := rfl
@[simp] theorem presentCop2_branchTaken (a v : Option Word) : (s.presentCop2 a v).branchTaken = s.branchTaken := rfl
@[simp] theorem presentCop2_savedBranchDelayActive (a v : Option Word) : (s.presentCop2 a v).savedBranchDelayActive = s.savedBranchDelayActive := rfl
@[simp] theorem presentCop2_savedBranchTaken (a v : Option Word) : (s.presentCop2 a v).savedBranchTaken = s.savedBranchTaken := rfl
@[simp] theorem presentCop2_pendingLoad (a v : Option Word) : (s.presentCop2 a v).pendingLoad = s.pendingLoad := rfl
@[simp] theorem presentCop2_bpc (a v : Option Word) : (s.presentCop2 a v).bpc = s.bpc := rfl
@[simp] theorem presentCop2_bda (a v : Option Word) : (s.presentCop2 a v).bda = s.bda := rfl
@[simp] theorem presentCop2_dcic (a v : Option Word) : (s.presentCop2 a v).dcic = s.dcic := rfl
@[simp] theorem presentCop2_bdam (a v : Option Word) : (s.presentCop2 a v).bdam = s.bdam := rfl
@[simp] theorem presentCop2_bpcm (a v : Option Word) : (s.presentCop2 a v).bpcm = s.bpcm := rfl
@[simp] theorem presentCop2_jumpDest (a v : Option Word) : (s.presentCop2 a v).jumpDest = s.jumpDest := rfl
@[simp] theorem presentCop2_badVAddr (a v : Option Word) : (s.presentCop2 a v).badVAddr = s.badVAddr := rfl
@[simp] theorem presentCop2_sr (a v : Option Word) : (s.presentCop2 a v).sr = s.sr := rfl
@[simp] theorem presentCop2_cause (a v : Option Word) : (s.presentCop2 a v).cause = s.cause := rfl
@[simp] theorem presentCop2_epc (a v : Option Word) : (s.presentCop2 a v).epc = s.epc := rfl
@[simp] theorem presentCop2_prid (a v : Option Word) : (s.presentCop2 a v).prid = s.prid := rfl
@[simp] theorem presentCop2_extIrq (a v : Option Word) : (s.presentCop2 a v).extIrq = s.extIrq := rfl
@[simp] theorem presentCop2_irqFeed (a v : Option Word) : (s.presentCop2 a v).irqFeed = s.irqFeed := rfl
@[simp] theorem presentCop2_mem (a v : Option Word) : (s.presentCop2 a v).mem = s.mem := rfl
@[simp] theorem presentCop2_busMap (a v : Option Word) : (s.presentCop2 a v).busMap = s.busMap := rfl
@[simp] theorem presentCop2_bus (a v : Option Word) : (s.presentCop2 a v).bus = s.bus := rfl
@[simp] theorem presentCop2_diag (a v : Option Word) : (s.presentCop2 a v).diag = s.diag := rfl
@[simp] theorem presentCop2_cop2 (a v : Option Word) : (s.presentCop2 a v).cop2 = some ⟨s.instruction, a, v⟩ := rfl
@[simp] theorem presentCop2_freeCount (a v : Option Word) : (s.presentCop2 a v).freeCount = s.freeCount := rfl

/-! ### `phase1` -/

@[simp] theorem phase1_gpr : (s.phase1).gpr = s.gpr := rfl
@[simp] theorem phase1_operandView : (s.phase1).operandView = s.operandView := rfl
@[simp] theorem phase1_pc : (s.phase1).pc = s.pc := rfl
@[simp] theorem phase1_nextPc : (s.phase1).nextPc = s.nextPc := rfl
@[simp] theorem phase1_currentPc : (s.phase1).currentPc = s.currentPc := rfl
@[simp] theorem phase1_priorPc : (s.phase1).priorPc = s.currentPc := rfl
@[simp] theorem phase1_hi : (s.phase1).hi = s.hi := rfl
@[simp] theorem phase1_lo : (s.phase1).lo = s.lo := rfl
@[simp] theorem phase1_instruction : (s.phase1).instruction = s.instruction := rfl
@[simp] theorem phase1_branchDelayActive : (s.phase1).branchDelayActive = false := rfl
@[simp] theorem phase1_branchTaken : (s.phase1).branchTaken = false := rfl
@[simp] theorem phase1_savedBranchDelayActive : (s.phase1).savedBranchDelayActive = s.branchDelayActive := rfl
@[simp] theorem phase1_savedBranchTaken : (s.phase1).savedBranchTaken = s.branchTaken := rfl
@[simp] theorem phase1_pendingLoad : (s.phase1).pendingLoad = s.pendingLoad := rfl
@[simp] theorem phase1_bpc : (s.phase1).bpc = s.bpc := rfl
@[simp] theorem phase1_bda : (s.phase1).bda = s.bda := rfl
@[simp] theorem phase1_dcic : (s.phase1).dcic = s.dcic := rfl
@[simp] theorem phase1_bdam : (s.phase1).bdam = s.bdam := rfl
@[simp] theorem phase1_bpcm : (s.phase1).bpcm = s.bpcm := rfl
@[simp] theorem phase1_jumpDest : (s.phase1).jumpDest = s.jumpDest := rfl
@[simp] theorem phase1_badVAddr : (s.phase1).badVAddr = s.badVAddr := rfl
@[simp] theorem phase1_sr : (s.phase1).sr = s.sr := rfl
@[simp] theorem phase1_cause : (s.phase1).cause = s.cause := rfl
@[simp] theorem phase1_epc : (s.phase1).epc = s.epc := rfl
@[simp] theorem phase1_prid : (s.phase1).prid = s.prid := rfl
@[simp] theorem phase1_extIrq : (s.phase1).extIrq = s.extIrq := rfl
@[simp] theorem phase1_irqFeed : (s.phase1).irqFeed = s.irqFeed := rfl
@[simp] theorem phase1_mem : (s.phase1).mem = s.mem := rfl
@[simp] theorem phase1_busMap : (s.phase1).busMap = s.busMap := rfl
@[simp] theorem phase1_bus : (s.phase1).bus = [] := rfl
@[simp] theorem phase1_diag : (s.phase1).diag = none := rfl
@[simp] theorem phase1_cop2 : (s.phase1).cop2 = none := rfl
@[simp] theorem phase1_freeCount : (s.phase1).freeCount = s.freeCount := rfl

/-! ### `phase2` -/

@[simp] theorem phase2_gpr : (s.phase2).gpr = match s.pendingLoad with | none => s.gpr | some p => (s.writeGpr p.index p.new).gpr := rfl
@[simp] theorem phase2_operandView : (s.phase2).operandView = s.gpr := rfl
@[simp] theorem phase2_pc : (s.phase2).pc = s.pc := rfl
@[simp] theorem phase2_nextPc : (s.phase2).nextPc = s.nextPc := rfl
@[simp] theorem phase2_currentPc : (s.phase2).currentPc = s.currentPc := rfl
@[simp] theorem phase2_priorPc : (s.phase2).priorPc = s.priorPc := rfl
@[simp] theorem phase2_hi : (s.phase2).hi = s.hi := rfl
@[simp] theorem phase2_lo : (s.phase2).lo = s.lo := rfl
@[simp] theorem phase2_instruction : (s.phase2).instruction = s.instruction := rfl
@[simp] theorem phase2_branchDelayActive : (s.phase2).branchDelayActive = s.branchDelayActive := rfl
@[simp] theorem phase2_branchTaken : (s.phase2).branchTaken = s.branchTaken := rfl
@[simp] theorem phase2_savedBranchDelayActive : (s.phase2).savedBranchDelayActive = s.savedBranchDelayActive := rfl
@[simp] theorem phase2_savedBranchTaken : (s.phase2).savedBranchTaken = s.savedBranchTaken := rfl
@[simp] theorem phase2_pendingLoad : (s.phase2).pendingLoad = none := rfl
@[simp] theorem phase2_bpc : (s.phase2).bpc = s.bpc := rfl
@[simp] theorem phase2_bda : (s.phase2).bda = s.bda := rfl
@[simp] theorem phase2_dcic : (s.phase2).dcic = s.dcic := rfl
@[simp] theorem phase2_bdam : (s.phase2).bdam = s.bdam := rfl
@[simp] theorem phase2_bpcm : (s.phase2).bpcm = s.bpcm := rfl
@[simp] theorem phase2_jumpDest : (s.phase2).jumpDest = s.jumpDest := rfl
@[simp] theorem phase2_badVAddr : (s.phase2).badVAddr = s.badVAddr := rfl
@[simp] theorem phase2_sr : (s.phase2).sr = s.sr := rfl
@[simp] theorem phase2_cause : (s.phase2).cause = s.cause := rfl
@[simp] theorem phase2_epc : (s.phase2).epc = s.epc := rfl
@[simp] theorem phase2_prid : (s.phase2).prid = s.prid := rfl
@[simp] theorem phase2_extIrq : (s.phase2).extIrq = s.extIrq := rfl
@[simp] theorem phase2_irqFeed : (s.phase2).irqFeed = s.irqFeed := rfl
@[simp] theorem phase2_mem : (s.phase2).mem = s.mem := rfl
@[simp] theorem phase2_busMap : (s.phase2).busMap = s.busMap := rfl
@[simp] theorem phase2_bus : (s.phase2).bus = s.bus := rfl
@[simp] theorem phase2_diag : (s.phase2).diag = s.diag := rfl
@[simp] theorem phase2_cop2 : (s.phase2).cop2 = s.cop2 := rfl
@[simp] theorem phase2_freeCount : (s.phase2).freeCount = s.freeCount := rfl

/-! ### `sampleIrq` -/

@[simp] theorem sampleIrq_gpr : (s.sampleIrq).gpr = s.gpr := rfl
@[simp] theorem sampleIrq_operandView : (s.sampleIrq).operandView = s.operandView := rfl
@[simp] theorem sampleIrq_pc : (s.sampleIrq).pc = s.pc := rfl
@[simp] theorem sampleIrq_nextPc : (s.sampleIrq).nextPc = s.nextPc := rfl
@[simp] theorem sampleIrq_currentPc : (s.sampleIrq).currentPc = s.currentPc := rfl
@[simp] theorem sampleIrq_priorPc : (s.sampleIrq).priorPc = s.priorPc := rfl
@[simp] theorem sampleIrq_hi : (s.sampleIrq).hi = s.hi := rfl
@[simp] theorem sampleIrq_lo : (s.sampleIrq).lo = s.lo := rfl
@[simp] theorem sampleIrq_instruction : (s.sampleIrq).instruction = s.instruction := rfl
@[simp] theorem sampleIrq_branchDelayActive : (s.sampleIrq).branchDelayActive = s.branchDelayActive := rfl
@[simp] theorem sampleIrq_branchTaken : (s.sampleIrq).branchTaken = s.branchTaken := rfl
@[simp] theorem sampleIrq_savedBranchDelayActive : (s.sampleIrq).savedBranchDelayActive = s.savedBranchDelayActive := rfl
@[simp] theorem sampleIrq_savedBranchTaken : (s.sampleIrq).savedBranchTaken = s.savedBranchTaken := rfl
@[simp] theorem sampleIrq_pendingLoad : (s.sampleIrq).pendingLoad = s.pendingLoad := rfl
@[simp] theorem sampleIrq_bpc : (s.sampleIrq).bpc = s.bpc := rfl
@[simp] theorem sampleIrq_bda : (s.sampleIrq).bda = s.bda := rfl
@[simp] theorem sampleIrq_dcic : (s.sampleIrq).dcic = s.dcic := rfl
@[simp] theorem sampleIrq_bdam : (s.sampleIrq).bdam = s.bdam := rfl
@[simp] theorem sampleIrq_bpcm : (s.sampleIrq).bpcm = s.bpcm := rfl
@[simp] theorem sampleIrq_jumpDest : (s.sampleIrq).jumpDest = s.jumpDest := rfl
@[simp] theorem sampleIrq_badVAddr : (s.sampleIrq).badVAddr = s.badVAddr := rfl
@[simp] theorem sampleIrq_sr : (s.sampleIrq).sr = s.sr := rfl
@[simp] theorem sampleIrq_cause : (s.sampleIrq).cause = s.cause := rfl
@[simp] theorem sampleIrq_epc : (s.sampleIrq).epc = s.epc := rfl
@[simp] theorem sampleIrq_prid : (s.sampleIrq).prid = s.prid := rfl
@[simp] theorem sampleIrq_extIrq : (s.sampleIrq).extIrq = s.irqFeed.headD (Config.extIrqLevel s.freeCount) := rfl
@[simp] theorem sampleIrq_irqFeed : (s.sampleIrq).irqFeed = s.irqFeed.tail := rfl
@[simp] theorem sampleIrq_mem : (s.sampleIrq).mem = s.mem := rfl
@[simp] theorem sampleIrq_busMap : (s.sampleIrq).busMap = s.busMap := rfl
@[simp] theorem sampleIrq_bus : (s.sampleIrq).bus = s.bus := rfl
@[simp] theorem sampleIrq_diag : (s.sampleIrq).diag = s.diag := rfl
@[simp] theorem sampleIrq_cop2 : (s.sampleIrq).cop2 = s.cop2 := rfl
@[simp] theorem sampleIrq_freeCount : (s.sampleIrq).freeCount = s.freeCount + 1 := rfl

/-! ### `latchCurrentPc` -/

@[simp] theorem latchCurrentPc_gpr : (s.latchCurrentPc).gpr = s.gpr := rfl
@[simp] theorem latchCurrentPc_operandView : (s.latchCurrentPc).operandView = s.operandView := rfl
@[simp] theorem latchCurrentPc_pc : (s.latchCurrentPc).pc = s.pc := rfl
@[simp] theorem latchCurrentPc_nextPc : (s.latchCurrentPc).nextPc = s.nextPc := rfl
@[simp] theorem latchCurrentPc_currentPc : (s.latchCurrentPc).currentPc = s.pc := rfl
@[simp] theorem latchCurrentPc_priorPc : (s.latchCurrentPc).priorPc = s.priorPc := rfl
@[simp] theorem latchCurrentPc_hi : (s.latchCurrentPc).hi = s.hi := rfl
@[simp] theorem latchCurrentPc_lo : (s.latchCurrentPc).lo = s.lo := rfl
@[simp] theorem latchCurrentPc_instruction : (s.latchCurrentPc).instruction = s.instruction := rfl
@[simp] theorem latchCurrentPc_branchDelayActive : (s.latchCurrentPc).branchDelayActive = s.branchDelayActive := rfl
@[simp] theorem latchCurrentPc_branchTaken : (s.latchCurrentPc).branchTaken = s.branchTaken := rfl
@[simp] theorem latchCurrentPc_savedBranchDelayActive : (s.latchCurrentPc).savedBranchDelayActive = s.savedBranchDelayActive := rfl
@[simp] theorem latchCurrentPc_savedBranchTaken : (s.latchCurrentPc).savedBranchTaken = s.savedBranchTaken := rfl
@[simp] theorem latchCurrentPc_pendingLoad : (s.latchCurrentPc).pendingLoad = s.pendingLoad := rfl
@[simp] theorem latchCurrentPc_bpc : (s.latchCurrentPc).bpc = s.bpc := rfl
@[simp] theorem latchCurrentPc_bda : (s.latchCurrentPc).bda = s.bda := rfl
@[simp] theorem latchCurrentPc_dcic : (s.latchCurrentPc).dcic = s.dcic := rfl
@[simp] theorem latchCurrentPc_bdam : (s.latchCurrentPc).bdam = s.bdam := rfl
@[simp] theorem latchCurrentPc_bpcm : (s.latchCurrentPc).bpcm = s.bpcm := rfl
@[simp] theorem latchCurrentPc_jumpDest : (s.latchCurrentPc).jumpDest = s.jumpDest := rfl
@[simp] theorem latchCurrentPc_badVAddr : (s.latchCurrentPc).badVAddr = s.badVAddr := rfl
@[simp] theorem latchCurrentPc_sr : (s.latchCurrentPc).sr = s.sr := rfl
@[simp] theorem latchCurrentPc_cause : (s.latchCurrentPc).cause = s.cause := rfl
@[simp] theorem latchCurrentPc_epc : (s.latchCurrentPc).epc = s.epc := rfl
@[simp] theorem latchCurrentPc_prid : (s.latchCurrentPc).prid = s.prid := rfl
@[simp] theorem latchCurrentPc_extIrq : (s.latchCurrentPc).extIrq = s.extIrq := rfl
@[simp] theorem latchCurrentPc_irqFeed : (s.latchCurrentPc).irqFeed = s.irqFeed := rfl
@[simp] theorem latchCurrentPc_mem : (s.latchCurrentPc).mem = s.mem := rfl
@[simp] theorem latchCurrentPc_busMap : (s.latchCurrentPc).busMap = s.busMap := rfl
@[simp] theorem latchCurrentPc_bus : (s.latchCurrentPc).bus = s.bus := rfl
@[simp] theorem latchCurrentPc_diag : (s.latchCurrentPc).diag = s.diag := rfl
@[simp] theorem latchCurrentPc_cop2 : (s.latchCurrentPc).cop2 = s.cop2 := rfl
@[simp] theorem latchCurrentPc_freeCount : (s.latchCurrentPc).freeCount = s.freeCount := rfl

/-! ### `fetchAdvance` -/

@[simp] theorem fetchAdvance_gpr : (s.fetchAdvance).gpr = s.gpr := rfl
@[simp] theorem fetchAdvance_operandView : (s.fetchAdvance).operandView = s.operandView := rfl
@[simp] theorem fetchAdvance_pc : (s.fetchAdvance).pc = s.nextPc := rfl
@[simp] theorem fetchAdvance_nextPc : (s.fetchAdvance).nextPc = s.nextPc + 4#32 := rfl
@[simp] theorem fetchAdvance_currentPc : (s.fetchAdvance).currentPc = s.currentPc := rfl
@[simp] theorem fetchAdvance_priorPc : (s.fetchAdvance).priorPc = s.priorPc := rfl
@[simp] theorem fetchAdvance_hi : (s.fetchAdvance).hi = s.hi := rfl
@[simp] theorem fetchAdvance_lo : (s.fetchAdvance).lo = s.lo := rfl
@[simp] theorem fetchAdvance_instruction : (s.fetchAdvance).instruction = s.wordAt s.pc := rfl
@[simp] theorem fetchAdvance_branchDelayActive : (s.fetchAdvance).branchDelayActive = s.branchDelayActive := rfl
@[simp] theorem fetchAdvance_branchTaken : (s.fetchAdvance).branchTaken = s.branchTaken := rfl
@[simp] theorem fetchAdvance_savedBranchDelayActive : (s.fetchAdvance).savedBranchDelayActive = s.savedBranchDelayActive := rfl
@[simp] theorem fetchAdvance_savedBranchTaken : (s.fetchAdvance).savedBranchTaken = s.savedBranchTaken := rfl
@[simp] theorem fetchAdvance_pendingLoad : (s.fetchAdvance).pendingLoad = s.pendingLoad := rfl
@[simp] theorem fetchAdvance_bpc : (s.fetchAdvance).bpc = s.bpc := rfl
@[simp] theorem fetchAdvance_bda : (s.fetchAdvance).bda = s.bda := rfl
@[simp] theorem fetchAdvance_dcic : (s.fetchAdvance).dcic = s.dcic := rfl
@[simp] theorem fetchAdvance_bdam : (s.fetchAdvance).bdam = s.bdam := rfl
@[simp] theorem fetchAdvance_bpcm : (s.fetchAdvance).bpcm = s.bpcm := rfl
@[simp] theorem fetchAdvance_jumpDest : (s.fetchAdvance).jumpDest = s.jumpDest := rfl
@[simp] theorem fetchAdvance_badVAddr : (s.fetchAdvance).badVAddr = s.badVAddr := rfl
@[simp] theorem fetchAdvance_sr : (s.fetchAdvance).sr = s.sr := rfl
@[simp] theorem fetchAdvance_cause : (s.fetchAdvance).cause = s.cause := rfl
@[simp] theorem fetchAdvance_epc : (s.fetchAdvance).epc = s.epc := rfl
@[simp] theorem fetchAdvance_prid : (s.fetchAdvance).prid = s.prid := rfl
@[simp] theorem fetchAdvance_extIrq : (s.fetchAdvance).extIrq = s.extIrq := rfl
@[simp] theorem fetchAdvance_irqFeed : (s.fetchAdvance).irqFeed = s.irqFeed := rfl
@[simp] theorem fetchAdvance_mem : (s.fetchAdvance).mem = s.mem := rfl
@[simp] theorem fetchAdvance_busMap : (s.fetchAdvance).busMap = s.busMap := rfl
@[simp] theorem fetchAdvance_bus : (s.fetchAdvance).bus = s.bus ++ [⟨.read, .word, s.pc, s.wordAt s.pc⟩] := rfl
@[simp] theorem fetchAdvance_diag : (s.fetchAdvance).diag = s.diag := rfl
@[simp] theorem fetchAdvance_cop2 : (s.fetchAdvance).cop2 = s.cop2 := rfl
@[simp] theorem fetchAdvance_freeCount : (s.fetchAdvance).freeCount = s.freeCount + 1 := rfl

/-! ### `slotEpc`: EPC of a victim in a delay slot (log 23) -/

theorem slotEpc_eq (v : Word) : s.slotEpc v = if Config.epcIsTheBranch then s.priorPc else v - 4#32 := by
  unfold State.slotEpc
  by_cases h : v = s.priorPc + 4#32
  · simp [h]
  · simp [h]

/-- Where the victim follows the branch, R204 and R303 step 5 give one address. -/
theorem slotEpc_of_follows (v : Word) (h : v = s.priorPc + 4#32) : s.slotEpc v = s.priorPc ∧ s.slotEpc v = v - 4#32 := by
  subst h
  simp [slotEpc_eq]

/-! ### `raise` and `raiseAddrError`: exception entry with the victim and successor of phase P6 -/

theorem raise_eq (c : ExcCause) : s.raise c = s.enterException c s.currentPc s.pc := rfl

theorem raiseAddrError_eq (c : ExcCause) (a : Word) :
    s.raiseAddrError c a = { s.enterException c s.currentPc s.pc with badVAddr := a } := rfl

theorem takeInterrupt_eq : s.takeInterrupt = s.enterException .interrupt s.pc s.nextPc := rfl

theorem fetchAddrError_eq :
    s.fetchAddrError = { s.enterException .loadAddrError s.pc s.nextPc with badVAddr := s.pc } := rfl

end Sys2Proof.Machine
end

