-- ==== Sys2Proof/Laws/Ops.lean ====
section
/-! SUPPORT. One lemma per shared operation, which later proofs cite: what a register reads after a write, what memory reads
after a bus write, that loads and stores do one of two things, and what each operation keeps of the invariant. -/

namespace Sys2Proof.Machine

variable (s : State)

/-! ### Registers (R7, R21) -/

@[simp] theorem x_zero : s.x 0#5 = 0#32 := by simp [State.x]
@[simp] theorem xpost_zero : s.xpost 0#5 = 0#32 := by simp [State.xpost]

theorem x_congr {s t : State} (h : s.operandView = t.operandView) (i : RegIdx) : s.x i = t.x i := by
  simp [State.x, h]

theorem xpost_congr {s t : State} (h : s.gpr = t.gpr) (i : RegIdx) : s.xpost i = t.xpost i := by
  simp [State.xpost, h]

/-- A write to register 0 is discarded. -/
@[simp] theorem writeGpr_zero (v : Word) : s.writeGpr 0#5 v = s := by simp [State.writeGpr]

/-- A register after a write: the value at the destination unless it is register 0, the old content elsewhere. -/
theorem xpost_writeGpr (i j : RegIdx) (v : Word) :
    (s.writeGpr i v).xpost j = if j = i ∧ j ≠ 0#5 then v else s.xpost j := by
  by_cases hj : j = 0#5
  · simp [hj]
  · by_cases hi : i = 0#5
    · subst hi
      simp [hj]
    · by_cases hij : j = i
      · subst hij
        simp [State.xpost, hj]
      · have : i.toNat ≠ j.toNat := fun h => hij (BitVec.eq_of_toNat_eq h.symm)
        simp [State.xpost, hj, hi, hij, this]

/-- The operand view does not see a write of its own step. -/
@[simp] theorem x_writeGpr (i j : RegIdx) (v : Word) : (s.writeGpr i v).x j = s.x j := rfl

/-- What P2 leaves in a register: the committed value for the destination of a pending load (R125). -/
theorem xpost_phase2 (j : RegIdx) :
    s.phase2.xpost j =
      match s.pendingLoad with
      | none => s.xpost j
      | some p => if j = p.index ∧ j ≠ 0#5 then p.new else s.xpost j := by
  cases h : s.pendingLoad with
  | none => exact xpost_congr (by simp [h]) j
  | some p => exact (xpost_congr (by simp [h]) j).trans (xpost_writeGpr s p.index j p.new)

/-- The operand view P2 takes is the register file before the commit (R124). -/
theorem x_phase2 (j : RegIdx) : s.phase2.x j = s.xpost j := rfl

/-! ### The bus (R60 to R65) -/

theorem storageAt_congr {s t : State} (h : s.busMap = t.busMap) (a : Word) : s.storageAt a = t.storageAt a := by
  simp [State.storageAt, h]

/-- Storage of an address, by its word and its place in the word. -/
theorem storageAt_eq (a : Word) :
    s.storageAt a = (storageWord s.busMap (BitVec.ofNat 30 (a.toNat / 4))).map
      fun n => BitVec.ofNat 32 (4 * n.toNat + a.toNat % 4) := by
  have hn : a.extractLsb' 2 30 = BitVec.ofNat 30 (a.toNat / 4) := by
    simp [BitVec.toNat_eq, BitVec.extractLsb'_toNat, Nat.shiftRight_eq_div_pow]
  simp only [State.storageAt, hn]
  congr 1
  funext n
  apply BitVec.eq_of_toNat_eq
  have h : (n ++ a.extractLsb' 0 2 : BitVec (30 + 2)).toNat = 4 * n.toNat + a.toNat % 4 := by
    rw [BitVec.toNat_append, BitVec.extractLsb'_toNat, Nat.shiftRight_zero,
      ← Nat.shiftLeft_add_eq_or_of_lt (Nat.mod_lt _ (by decide)), Nat.shiftLeft_eq]
    omega
  exact h.trans (by rw [BitVec.toNat_ofNat]; omega)

/-- The bytes of an aligned word lie side by side in storage (log 3). -/
theorem storageAt_add {a : Word} {k : Nat} (hk : a.toNat % 4 + k < 4) :
    s.storageAt (a + BitVec.ofNat 32 k) = (s.storageAt a).map (· + BitVec.ofNat 32 k) := by
  have h : (a + BitVec.ofNat 32 k).toNat = a.toNat + k := by bv_omega
  rw [storageAt_eq, storageAt_eq, h, show (a.toNat + k) / 4 = a.toNat / 4 by omega, Option.map_map]
  congr 1
  funext n
  apply BitVec.eq_of_toNat_eq
  simp only [Function.comp_apply, BitVec.toNat_add, BitVec.toNat_ofNat]
  omega

/-- An address and its storage have the same place in their words (log 3). -/
theorem storageAt_mod {a p : Word} (hp : s.storageAt a = some p) : p.toNat % 4 = a.toNat % 4 := by
  rw [storageAt_eq, Option.map_eq_some_iff] at hp
  obtain ⟨n, -, rfl⟩ := hp
  simp only [BitVec.toNat_ofNat]
  omega

/-- Two addresses with one storage hold the same byte (R62). -/
theorem byteAt?_of_storageAt {a b : Word} (h : s.storageAt a = s.storageAt b) : s.byteAt? a = s.byteAt? b := by
  simp [State.byteAt?, h]

theorem busByte_stored {a : Word} {b : Byte} (h : s.byteAt? a = some b) : s.busByte a = b := by
  simp [State.busByte, h]

theorem read?_write8 (a : Word) (v : Byte) (k : Nat) :
    (s.write8 a v).mem.read? k = if (s.storageAt a).map BitVec.toNat = some k then some v else s.mem.read? k := by
  simp [State.write8, Memory.read?_store]

theorem read?_putHalf (a : Word) (v : Half) (k : Nat) :
    (s.putHalf a v).read? k =
      if (s.storageAt (a + 1#32)).map BitVec.toNat = some k then some (v.extractLsb' 8 8)
      else if (s.storageAt a).map BitVec.toNat = some k then some (v.extractLsb' 0 8)
      else s.mem.read? k := by
  simp only [State.putHalf, Memory.read?_store]

theorem read?_putWord (a v : Word) (k : Nat) :
    (s.putWord a v).read? k =
      if (s.storageAt (a + 3#32)).map BitVec.toNat = some k then some (byteOfWord v 3)
      else if (s.storageAt (a + 2#32)).map BitVec.toNat = some k then some (byteOfWord v 2)
      else if (s.storageAt (a + 1#32)).map BitVec.toNat = some k then some (byteOfWord v 1)
      else if (s.storageAt a).map BitVec.toNat = some k then some (byteOfWord v 0)
      else s.mem.read? k := by
  simp only [State.putWord, Memory.read?_store]

/-- The bytes of a word put together again are the word (R65). -/
theorem wordOfBytes_byteOfWord (v : Word) :
    wordOfBytes (byteOfWord v 0) (byteOfWord v 1) (byteOfWord v 2) (byteOfWord v 3) = v := by
  apply BitVec.eq_of_getLsbD_eq
  intro i hi
  simp only [wordOfBytes, byteOfWord, BitVec.getLsbD_append, BitVec.getLsbD_extractLsb']
  split
  · simp [*]
  · split
    · simp only [show i - 8 < 8 by omega, decide_true, Bool.true_and]
      congr 1
      omega
    · split
      · simp only [show i - 8 - 8 < 8 by omega, decide_true, Bool.true_and]
        congr 1
        omega
      · simp only [show i - 8 - 8 - 8 < 8 by omega, decide_true, Bool.true_and]
        congr 1
        omega

/-- A byte of a word that was put behind an aligned address with storage (R63, R65). -/
theorem read?_putWord_byte {a p : Word} (v : Word) (ha : a.toNat % 4 = 0) (hp : s.storageAt a = some p) {k : Nat}
    (hk : k < 4) : (s.putWord a v).read? (p + BitVec.ofNat 32 k).toNat = some (byteOfWord v k) := by
  have e : ∀ j < 4, s.storageAt (a + BitVec.ofNat 32 j) = some (p + BitVec.ofNat 32 j) := fun j hj => by
    rw [storageAt_add s (by omega), hp, Option.map_some]
  have h1 : (p + 1#32).toNat ≠ p.toNat := by bv_omega
  have h2 : (p + 2#32).toNat ≠ p.toNat := by bv_omega
  have h3 : (p + 3#32).toNat ≠ p.toNat := by bv_omega
  have h21 : (p + 2#32).toNat ≠ (p + 1#32).toNat := by bv_omega
  have h31 : (p + 3#32).toNat ≠ (p + 1#32).toNat := by bv_omega
  have h32 : (p + 3#32).toNat ≠ (p + 2#32).toNat := by bv_omega
  simp only [read?_putWord, hp, e 1 (by decide), e 2 (by decide), e 3 (by decide), Option.map_some, Option.some.injEq]
  obtain rfl | rfl | rfl | rfl : k = 0 ∨ k = 1 ∨ k = 2 ∨ k = 3 := by omega
  · simp only [BitVec.add_zero, h1, h2, h3, if_false, if_true]
  · simp only [h21, h31, if_false, if_true]
  · simp only [h32, if_false, if_true]
  · simp only [if_true]

/-- A word read back through any view of the storage it was put into (R62, R63, R65). -/
theorem wordAt_of_putWord {t : State} {a b p : Word} (v : Word) (hm : t.mem = s.putWord a v) (hmap : t.busMap = s.busMap)
    (ha : a.toNat % 4 = 0) (hp : s.storageAt a = some p) (hb : b.toNat % 4 = 0) (hq : s.storageAt b = some p) :
    t.wordAt b = v := by
  have e : ∀ k < 4, t.busByte (b + BitVec.ofNat 32 k) = byteOfWord v k := fun k hk => by
    apply busByte_stored
    rw [State.byteAt?, storageAt_congr hmap, storageAt_add s (by omega), hq]
    simpa [hm] using read?_putWord_byte s v ha hp hk
  have e0 := e 0 (by decide)
  rw [BitVec.add_zero] at e0
  rw [State.wordAt, e0, e 1 (by decide), e 2 (by decide), e 3 (by decide), wordOfBytes_byteOfWord]

/-- `withStorage` gives storage and keeps the memory. -/
theorem withStorage_storageAt (a : Word) : ∃ p, (s.withStorage a).storageAt a = some p := by
  unfold State.withStorage
  split
  · exact ⟨_, ‹_›⟩
  · simp [State.storageAt, storageWord]

@[simp] theorem withStorage_mem (a : Word) : (s.withStorage a).mem = s.mem := by
  unfold State.withStorage
  split <;> rfl

@[simp] theorem withStorage_pc (a : Word) : (s.withStorage a).pc = s.pc := by
  unfold State.withStorage
  split <;> rfl

/-- The word placed by `withFetchWord` at an aligned `pc` is the word the next step fetches (log 6). -/
theorem wordAt_withFetchWord (w : Nat) (ha : s.pc.toNat % 4 = 0) :
    (s.withFetchWord 32 w).wordAt s.pc = BitVec.ofNat 32 w := by
  obtain ⟨p, hp⟩ := withStorage_storageAt s s.pc
  rw [wordAt_of_putWord (s.withStorage s.pc) (t := s.withFetchWord 32 w) _ rfl rfl ha hp ha hp]
  simp [BitVec.toNat_eq]

/-! ### Loads and stores (R221 to R223): what each shared operation can do -/

theorem loadHalf_cases (ext : Half → Word) (rt : RegIdx) (a : Word) :
    (halfMisaligned a = true ∧ s.loadHalf ext rt a = s.raiseAddrError .loadAddrError a) ∨
    (halfMisaligned a = false ∧ s.loadHalf ext rt a = (s.read16 a).stageLoad rt (ext (s.halfAt a))) := by
  unfold State.loadHalf
  cases halfMisaligned a <;> simp

theorem loadWord_cases (rt : RegIdx) (a : Word) :
    (wordMisaligned a = true ∧ s.loadWord rt a = s.raiseAddrError .loadAddrError a) ∨
    (wordMisaligned a = false ∧ s.loadWord rt a = (s.read32 a).stageLoad rt (s.wordAt a)) := by
  unfold State.loadWord
  cases wordMisaligned a <;> simp

theorem storeHalf_cases (a v : Word) :
    (halfMisaligned a = true ∧ s.storeHalf a v = s.raiseAddrError .writeAddrError a) ∨
    (halfMisaligned a = false ∧ s.storeHalf a v = s.write16 a (v.extractLsb' 0 16)) := by
  unfold State.storeHalf
  cases halfMisaligned a <;> simp

theorem storeWord_cases (a v : Word) :
    (wordMisaligned a = true ∧ s.storeWord a v = s.raiseAddrError .writeAddrError a) ∨
    (wordMisaligned a = false ∧ s.storeWord a v = s.write32 a v) := by
  unfold State.storeWord
  cases wordMisaligned a <;> simp

/-- The bit test of a halfword address is its remainder by 2 (R66). -/
theorem halfMisaligned_iff (a : Word) : halfMisaligned a = true ↔ a.toNat % 2 = 1 := by
  simp [halfMisaligned, BitVec.getLsbD, Nat.testBit_zero]

/-- The bit test of a word address is its remainder by 4 (R66, R67). -/
theorem wordMisaligned_iff (a : Word) : wordMisaligned a = true ↔ a.toNat % 4 ≠ 0 := by
  simp [wordMisaligned, bne_iff_ne, BitVec.toNat_eq]

/-- The word an unaligned access uses is a multiple of 4 (R61, R240). -/
theorem wordAligned_mod (a : Word) : (wordAligned a).toNat % 4 = 0 := by
  have h : wordMisaligned (wordAligned a) = false := by
    simp only [wordMisaligned, wordAligned, bne_eq_false_iff_eq]
    apply BitVec.eq_of_getLsbD_eq
    intro i hi
    have : i = 0 ∨ i = 1 := by omega
    rcases this with rfl | rfl <;> simp
  by_contra hne
  exact Bool.false_ne_true (h.symm.trans ((wordMisaligned_iff _).2 hne))

/-! ### What the operations keep of the invariant -/

theorem writeGpr_keeps_zeroRegister (i : RegIdx) (v : Word) (h : s.zeroRegisterInv) :
    (s.writeGpr i v).zeroRegisterInv := by
  by_cases hi : i = 0#5
  · simpa [hi] using h
  · have : i.toNat ≠ 0 := fun e => hi (BitVec.eq_of_toNat_eq (by simpa using e))
    simpa [State.zeroRegisterInv, hi, Vector.getElem_set, this] using h

theorem phase2_keeps_zeroRegister (h : s.zeroRegisterInv) : s.phase2.zeroRegisterInv := by
  cases hp : s.pendingLoad with
  | none => simpa [State.zeroRegisterInv, hp] using h
  | some p => simpa [State.zeroRegisterInv, hp] using writeGpr_keeps_zeroRegister s p.index p.new h

theorem write8_keeps_memory (a : Word) (v : Byte) (h : s.memoryInv) : (s.write8 a v).memoryInv := Memory.wf_store h _ _

theorem putHalf_wf (a : Word) (v : Half) (h : s.memoryInv) : (s.putHalf a v).wf = true :=
  Memory.wf_store (Memory.wf_store h _ _) _ _

theorem putWord_wf (a v : Word) (h : s.memoryInv) : (s.putWord a v).wf = true :=
  Memory.wf_store (Memory.wf_store (Memory.wf_store (Memory.wf_store h _ _) _ _) _ _) _ _

theorem write16_keeps_memory (a : Word) (v : Half) (h : s.memoryInv) : (s.write16 a v).memoryInv := putHalf_wf s a v h

theorem write32_keeps_memory (a v : Word) (h : s.memoryInv) : (s.write32 a v).memoryInv := putWord_wf s a v h

/-- Placing a fetch word keeps the canonical form. -/
theorem withFetchWord_keeps_memory (nbits w : Nat) (h : s.memoryInv) : (s.withFetchWord nbits w).memoryInv :=
  putWord_wf (s.withStorage s.pc) _ _ (by simpa [State.memoryInv] using h)

/-- A staged load records the register as it stands, so the pending invariant holds of it (R28). -/
theorem stageLoad_pendingInv (i : RegIdx) (v : Word) : (s.stageLoad i v).pendingInv := by
  intro p hp
  simp only [stageLoad_pendingLoad, Option.mem_def, Option.some.injEq] at hp
  subst hp
  rfl

end Sys2Proof.Machine
end

