-- ==== Sys2Proof/Laws/Step.lean ====
section
/-! SUPPORT. What a step can do, said once: it takes an interrupt, or a fetch address error, or runs the decoded instruction
on the state after the fetch. -/

namespace Sys2Proof.Machine

/-- The state phase P6 starts from: P1 to P5 done, no interrupt taken. -/
abbrev State.fetched (s : State) : State := s.beginStep.latchCurrentPc.fetchAdvance

/-- Inversion of a step (R120, R312). -/
theorem step_cases (s : State) :
    (s.beginStep.interruptTaken = true ∧ step s = .next s.beginStep.takeInterrupt) ∨
    (s.beginStep.interruptTaken = false ∧ wordMisaligned s.pc = true ∧
      step s = .next s.beginStep.latchCurrentPc.fetchAddrError) ∨
    (s.beginStep.interruptTaken = false ∧ wordMisaligned s.pc = false ∧
      step s = exec (decodeWord s.fetched.instruction) s.fetched) := by
  unfold step
  cases hi : s.beginStep.interruptTaken with
  | true => simp
  | false =>
    have hpc : s.beginStep.pc = s.pc := rfl
    cases hm : wordMisaligned s.pc <;> simp [hpc, hm]

/-- P1 and P3 leave the registers alone; the commit of P2 shows (R124, R125). -/
theorem xpost_beginStep (s : State) (j : RegIdx) :
    s.beginStep.xpost j =
      match s.pendingLoad with
      | none => s.xpost j
      | some p => if j = p.index ∧ j ≠ 0#5 then p.new else s.xpost j :=
  xpost_phase2 s.phase1 j

/-- The operand view of a step is the register file at the end of the step before (R7, R124). -/
theorem x_beginStep (s : State) (j : RegIdx) : s.beginStep.x j = s.xpost j := rfl

/-- The word the step fetches (R64). -/
theorem fetched_instruction (s : State) : s.fetched.instruction = s.beginStep.wordAt s.pc := rfl

/-- One more step of a run, for any machine. -/
theorem run_next (M : Host.Core) (n : Nat) (s t : M.State) (h : M.step s = .next t) : M.run (n + 1) s = M.run n t := by
  rw [Host.Core.run, h]

/-- One more step of a run of this machine. -/
theorem core_run_next {s t : State} (n : Nat) (h : step s = .next t) :
    Sys2Proof.core.run (n + 1) s = Sys2Proof.core.run n t := run_next Sys2Proof.core n s t h

end Sys2Proof.Machine
end

