-- ==== Sys2Proof/Laws/Exec.lean ====
section
/-! SUPPORT. What executing an instruction can do, said once: every next state `exec` answers is one of the shapes of
`Effect`, and `exec` always answers one. A property of all instructions is proved shape by shape. -/

namespace Sys2Proof.Machine

/-- The shapes of a next state, each an operation of Machine/Ops.lean. Where later properties need it, a shape names the
instructions it can come from. -/
inductive Effect (i : Instr) (s : State) : State → Prop
  | register (r : RegIdx) (v : Word) : Effect i s (s.writeGpr r v)
  | trap (c : ExcCause) (hc : c = .overflow ∨ c = .syscall ∨ c = .breakPoint) : Effect i s (s.raise c)
  | addrError (c : ExcCause) (a : Word) (hc : c = .loadAddrError ∨ c = .writeAddrError) :
      Effect i s (s.raiseAddrError c a)
  | hiLo (h l : Word)
      (hi : ∃ rs rt : RegIdx, i = .mult rs rt ∨ i = .multu rs rt ∨ i = .div rs rt ∨ i = .divu rs rt ∨ i = .mthi rs ∨
        i = .mtlo rs) : Effect i s (s.writeHiLo h l)
  | branch (taken : Bool) (target : Word) : Effect i s (s.branchTo taken target)
  | branchLink (r : RegIdx) (taken : Bool) (target : Word) :
      Effect i s ((s.writeGpr r s.linkValue).branchTo taken target)
  | loadByte (ext : Byte → Word) (rt : RegIdx) (a : Word) : Effect i s (s.loadByte ext rt a)
  | loadHalf (ext : Half → Word) (rt : RegIdx) (a : Word) (ha : halfMisaligned a = false) :
      Effect i s ((s.read16 a).stageLoad rt (ext (s.halfAt a)))
  | loadWord (rt : RegIdx) (a : Word) (ha : wordMisaligned a = false) :
      Effect i s ((s.read32 a).stageLoad rt (s.wordAt a))
  | loadMerged (merge : BitVec 2 → Word → Word → Word) (rt : RegIdx) (a : Word) : Effect i s (s.loadMerged merge rt a)
  | storeByte (a : Word) (v : Byte) : Effect i s (s.write8 a v)
  | storeHalf (a : Word) (v : Half) (ha : halfMisaligned a = false) : Effect i s (s.write16 a v)
  | storeWord (a v : Word) (ha : wordMisaligned a = false) : Effect i s (s.write32 a v)
  | storeMerged (merge : BitVec 2 → Word → Word → Word) (rt : RegIdx) (a : Word) : Effect i s (s.storeMerged merge rt a)
  | stageCop0 (rt : RegIdx) (r : Cop0Reg) : Effect i s (s.stageLoad rt (s.readCop0 r))
  | writeCop0 (rt rd : RegIdx) (r : Cop0Reg) (hi : i = .mtc0 rt rd) (hr : cop0Reg? rd = some r) :
      Effect i s (s.writeCop0 r (s.x rt))
  | diag : Effect i s s.pulseDiag
  | rfe (hi : i = .rfe) : Effect i s s.returnFromException
  | cop2 (addr value : Option Word) : Effect i s (s.presentCop2 addr value)

section
variable (i : Instr) (s : State)

theorem Effect.ofLoadHalf (ext : Half → Word) (rt : RegIdx) (a : Word) : Effect i s (s.loadHalf ext rt a) := by
  obtain ⟨_, h⟩ | ⟨ha, h⟩ := loadHalf_cases s ext rt a
  · exact h ▸ .addrError _ _ (.inl rfl)
  · exact h ▸ .loadHalf _ _ _ ha

theorem Effect.ofLoadWord (rt : RegIdx) (a : Word) : Effect i s (s.loadWord rt a) := by
  obtain ⟨_, h⟩ | ⟨ha, h⟩ := loadWord_cases s rt a
  · exact h ▸ .addrError _ _ (.inl rfl)
  · exact h ▸ .loadWord _ _ ha

theorem Effect.ofStoreHalf (a v : Word) : Effect i s (s.storeHalf a v) := by
  obtain ⟨_, h⟩ | ⟨ha, h⟩ := storeHalf_cases s a v
  · exact h ▸ .addrError _ _ (.inr rfl)
  · exact h ▸ .storeHalf _ _ ha

theorem Effect.ofStoreWord (a v : Word) : Effect i s (s.storeWord a v) := by
  obtain ⟨_, h⟩ | ⟨ha, h⟩ := storeWord_cases s a v
  · exact h ▸ .addrError _ _ (.inr rfl)
  · exact h ▸ .storeWord _ _ ha

end

/-- Every instruction answers a next state in every state, of one of the shapes (R361). -/
theorem exec_effect (i : Instr) (s : State) : ∃ t, exec i s = .next t ∧ Effect i s t := by
  cases i
  case add rd rs rt =>
    simp only [exec, execAdd]
    split
    · exact ⟨_, rfl, .trap _ (.inl rfl)⟩
    · exact ⟨_, rfl, .register _ _⟩
  case sub rd rs rt =>
    simp only [exec, execSub]
    split
    · exact ⟨_, rfl, .trap _ (.inl rfl)⟩
    · exact ⟨_, rfl, .register _ _⟩
  case addi rt rs imm =>
    simp only [exec, execAddi]
    split
    · exact ⟨_, rfl, .trap _ (.inl rfl)⟩
    · exact ⟨_, rfl, .register _ _⟩
  case mfc0 rt rd =>
    simp only [exec, execMfc0]
    split
    · exact ⟨_, rfl, .stageCop0 _ _⟩
    · exact ⟨_, rfl, .diag⟩
  case mtc0 rt rd =>
    simp only [exec, execMtc0]
    split
    case h_1 r hr => exact ⟨_, rfl, .writeCop0 _ _ _ rfl hr⟩
    case h_2 => exact ⟨_, rfl, .diag⟩
  case syscall => exact ⟨_, rfl, .trap _ (.inr (.inl rfl))⟩
  case brk => exact ⟨_, rfl, .trap _ (.inr (.inr rfl))⟩
  case mult rs rt => exact ⟨_, rfl, .hiLo _ _ ⟨rs, rt, by simp⟩⟩
  case multu rs rt => exact ⟨_, rfl, .hiLo _ _ ⟨rs, rt, by simp⟩⟩
  case div rs rt => exact ⟨_, rfl, .hiLo _ _ ⟨rs, rt, by simp⟩⟩
  case divu rs rt => exact ⟨_, rfl, .hiLo _ _ ⟨rs, rt, by simp⟩⟩
  case mthi rs => exact ⟨_, rfl, .hiLo _ _ ⟨rs, 0, by simp⟩⟩
  case mtlo rs => exact ⟨_, rfl, .hiLo _ _ ⟨rs, 0, by simp⟩⟩
  case rfe => exact ⟨_, rfl, .rfe rfl⟩
  case unimplemented => exact ⟨_, rfl, .diag⟩
  case mfc2 => exact ⟨_, rfl, .cop2 _ _⟩
  case cfc2 => exact ⟨_, rfl, .cop2 _ _⟩
  case mtc2 => exact ⟨_, rfl, .cop2 _ _⟩
  case ctc2 => exact ⟨_, rfl, .cop2 _ _⟩
  case cop2 => exact ⟨_, rfl, .cop2 _ _⟩
  case lwc2 => exact ⟨_, rfl, .cop2 _ _⟩
  case swc2 => exact ⟨_, rfl, .cop2 _ _⟩
  case lb => exact ⟨_, rfl, .loadByte _ _ _⟩
  case lbu => exact ⟨_, rfl, .loadByte _ _ _⟩
  case lh => exact ⟨_, rfl, .ofLoadHalf _ _ _ _ _⟩
  case lhu => exact ⟨_, rfl, .ofLoadHalf _ _ _ _ _⟩
  case lw => exact ⟨_, rfl, .ofLoadWord _ _ _ _⟩
  case lwl => exact ⟨_, rfl, .loadMerged _ _ _⟩
  case lwr => exact ⟨_, rfl, .loadMerged _ _ _⟩
  case sb => exact ⟨_, rfl, .storeByte _ _⟩
  case sh => exact ⟨_, rfl, .ofStoreHalf _ _ _ _⟩
  case sw => exact ⟨_, rfl, .ofStoreWord _ _ _ _⟩
  case swl => exact ⟨_, rfl, .storeMerged _ _ _⟩
  case swr => exact ⟨_, rfl, .storeMerged _ _ _⟩
  case jal => exact ⟨_, rfl, .branchLink _ _ _⟩
  case jalr => exact ⟨_, rfl, .branchLink _ _ _⟩
  case bltzal => exact ⟨_, rfl, .branchLink _ _ _⟩
  case bgezal => exact ⟨_, rfl, .branchLink _ _ _⟩
  case j => exact ⟨_, rfl, .branch _ _⟩
  case jr => exact ⟨_, rfl, .branch _ _⟩
  case beq => exact ⟨_, rfl, .branch _ _⟩
  case bne => exact ⟨_, rfl, .branch _ _⟩
  case blez => exact ⟨_, rfl, .branch _ _⟩
  case bgtz => exact ⟨_, rfl, .branch _ _⟩
  case bltz => exact ⟨_, rfl, .branch _ _⟩
  case bgez => exact ⟨_, rfl, .branch _ _⟩
  all_goals exact ⟨_, rfl, .register _ _⟩

/-- The shape of a given next state. -/
theorem effect_of_exec {i : Instr} {s t : State} (h : exec i s = .next t) : Effect i s t := by
  obtain ⟨u, hu, he⟩ := exec_effect i s
  rw [h] at hu
  cases hu
  exact he

end Sys2Proof.Machine
end

