-- ==== Sys2Proof/Laws/PerInstr.lean ====
section
/-! SUPPORT. Statements about every instruction as syntax, one lemma per constructor. The family `TableRow`: the word of an
instruction fits the mask and the match of its row of spec/opcode_table.json, whatever its operands are. -/

namespace Sys2Proof.Laws

/-- The mask of the instruction's row of spec/opcode_table.json. -/
def rowMask : Instr → Word
  | .sll .. | .srl .. | .sra .. | .sllv .. | .srlv .. | .srav .. | .jr .. | .jalr .. | .syscall .. | .brk ..
  | .mfhi .. | .mthi .. | .mflo .. | .mtlo .. | .mult .. | .multu .. | .div .. | .divu .. | .add .. | .addu ..
  | .sub .. | .subu .. | .and .. | .or .. | .xor .. | .nor .. | .slt .. | .sltu .. => 0xFC00003F#32
  | .bltzal .. | .bgezal .. => 0xFC1F0000#32
  | .bltz .. | .bgez .. => 0xFC010000#32
  | .j .. | .jal .. | .beq .. | .bne .. | .blez .. | .bgtz .. | .addi .. | .addiu .. | .slti .. | .sltiu ..
  | .andi .. | .ori .. | .xori .. | .lui .. | .lb .. | .lh .. | .lwl .. | .lw .. | .lbu .. | .lhu .. | .lwr ..
  | .sb .. | .sh .. | .swl .. | .sw .. | .swr .. | .lwc2 .. | .swc2 .. => 0xFC000000#32
  | .mfc0 .. | .mtc0 .. | .mfc2 .. | .cfc2 .. | .mtc2 .. | .ctc2 .. => 0xFFE00000#32
  | .rfe => 0xFFE0003F#32
  | .cop2 .. => 0xFE000000#32
  | .unimplemented .. => 0x00000000#32

/-- The match of the instruction's row of spec/opcode_table.json. -/
def rowMatch : Instr → Word
  | .sll .. => 0x00000000#32
  | .srl .. => 0x00000002#32
  | .sra .. => 0x00000003#32
  | .sllv .. => 0x00000004#32
  | .srlv .. => 0x00000006#32
  | .srav .. => 0x00000007#32
  | .jr .. => 0x00000008#32
  | .jalr .. => 0x00000009#32
  | .syscall .. => 0x0000000C#32
  | .brk .. => 0x0000000D#32
  | .mfhi .. => 0x00000010#32
  | .mthi .. => 0x00000011#32
  | .mflo .. => 0x00000012#32
  | .mtlo .. => 0x00000013#32
  | .mult .. => 0x00000018#32
  | .multu .. => 0x00000019#32
  | .div .. => 0x0000001A#32
  | .divu .. => 0x0000001B#32
  | .add .. => 0x00000020#32
  | .addu .. => 0x00000021#32
  | .sub .. => 0x00000022#32
  | .subu .. => 0x00000023#32
  | .and .. => 0x00000024#32
  | .or .. => 0x00000025#32
  | .xor .. => 0x00000026#32
  | .nor .. => 0x00000027#32
  | .slt .. => 0x0000002A#32
  | .sltu .. => 0x0000002B#32
  | .bltzal .. => 0x04100000#32
  | .bgezal .. => 0x04110000#32
  | .bltz .. => 0x04000000#32
  | .bgez .. => 0x04010000#32
  | .j .. => 0x08000000#32
  | .jal .. => 0x0C000000#32
  | .beq .. => 0x10000000#32
  | .bne .. => 0x14000000#32
  | .blez .. => 0x18000000#32
  | .bgtz .. => 0x1C000000#32
  | .addi .. => 0x20000000#32
  | .addiu .. => 0x24000000#32
  | .slti .. => 0x28000000#32
  | .sltiu .. => 0x2C000000#32
  | .andi .. => 0x30000000#32
  | .ori .. => 0x34000000#32
  | .xori .. => 0x38000000#32
  | .lui .. => 0x3C000000#32
  | .mfc0 .. => 0x40000000#32
  | .mtc0 .. => 0x40800000#32
  | .rfe => 0x42000010#32
  | .mfc2 .. => 0x48000000#32
  | .cfc2 .. => 0x48400000#32
  | .mtc2 .. => 0x48800000#32
  | .ctc2 .. => 0x48C00000#32
  | .cop2 .. => 0x4A000000#32
  | .lb .. => 0x80000000#32
  | .lh .. => 0x84000000#32
  | .lwl .. => 0x88000000#32
  | .lw .. => 0x8C000000#32
  | .lbu .. => 0x90000000#32
  | .lhu .. => 0x94000000#32
  | .lwr .. => 0x98000000#32
  | .sb .. => 0xA0000000#32
  | .sh .. => 0xA4000000#32
  | .swl .. => 0xA8000000#32
  | .sw .. => 0xAC000000#32
  | .swr .. => 0xB8000000#32
  | .lwc2 .. => 0xC8000000#32
  | .swc2 .. => 0xE8000000#32
  | .unimplemented .. => 0x00000000#32

/-! ### A format under a mask: one lemma per format and mask -/

section
variable (rs rt rd sa : BitVec 5) (funct op : BitVec 6) (imm : Half)

theorem rWord_row : rWord rs rt rd sa funct &&& 0xFC00003F#32 = 0#6 ++ 0#5 ++ 0#5 ++ 0#5 ++ 0#5 ++ funct := by
  show (0#6 ++ rs ++ rt ++ rd ++ sa ++ funct) &&&
    (BitVec.allOnes 6 ++ 0#5 ++ 0#5 ++ 0#5 ++ 0#5 ++ BitVec.allOnes 6) = _
  simp only [BitVec.and_append, BitVec.and_zero, BitVec.and_allOnes]

theorem iWord_row : iWord op rs rt imm &&& 0xFC000000#32 = op ++ 0#5 ++ 0#5 ++ 0#16 := by
  show (op ++ rs ++ rt ++ imm) &&& (BitVec.allOnes 6 ++ 0#5 ++ 0#5 ++ 0#16) = _
  simp only [BitVec.and_append, BitVec.and_zero, BitVec.and_allOnes]

theorem iWord_rowRt : iWord op rs rt imm &&& 0xFC1F0000#32 = op ++ 0#5 ++ rt ++ 0#16 := by
  show (op ++ rs ++ rt ++ imm) &&& (BitVec.allOnes 6 ++ 0#5 ++ BitVec.allOnes 5 ++ 0#16) = _
  simp only [BitVec.and_append, BitVec.and_zero, BitVec.and_allOnes]

theorem iWord_rowRt0 : iWord op rs rt imm &&& 0xFC010000#32 = op ++ 0#5 ++ (rt &&& 1#5) ++ 0#16 := by
  show (op ++ rs ++ rt ++ imm) &&& (BitVec.allOnes 6 ++ 0#5 ++ 1#5 ++ 0#16) = _
  simp only [BitVec.and_append, BitVec.and_zero, BitVec.and_allOnes]

theorem jWord_row (target : BitVec 26) : jWord op target &&& 0xFC000000#32 = op ++ 0#26 := by
  show (op ++ target) &&& (BitVec.allOnes 6 ++ 0#26) = _
  simp only [BitVec.and_append, BitVec.and_zero, BitVec.and_allOnes]

theorem copWord_row : copWord op rs rt rd funct &&& 0xFFE00000#32 = op ++ rs ++ 0#5 ++ 0#5 ++ 0#5 ++ 0#6 := by
  show (op ++ rs ++ rt ++ rd ++ 0#5 ++ funct) &&&
    (BitVec.allOnes 6 ++ BitVec.allOnes 5 ++ 0#5 ++ 0#5 ++ 0#5 ++ 0#6) = _
  simp only [BitVec.and_append, BitVec.and_zero, BitVec.and_allOnes]

theorem codeWord_row (code : BitVec 20) :
    (0x00#6 ++ code ++ funct) &&& 0xFC00003F#32 = 0#6 ++ 0#20 ++ funct := by
  show (0#6 ++ code ++ funct) &&& (BitVec.allOnes 6 ++ 0#20 ++ BitVec.allOnes 6) = _
  simp only [BitVec.and_append, BitVec.and_zero, BitVec.and_allOnes]

theorem cop2Word_row (command : BitVec 25) : (0x12#6 ++ 1#1 ++ command) &&& 0xFE000000#32 = 0x12#6 ++ 1#1 ++ 0#25 := by
  show (0x12#6 ++ 1#1 ++ command) &&& (BitVec.allOnes 6 ++ BitVec.allOnes 1 ++ 0#25) = _
  simp only [BitVec.and_append, BitVec.and_zero, BitVec.and_allOnes]

end

namespace TableRow

/-- The word of the instruction fits its row. -/
def Statement (i : Instr) : Prop := encode i &&& rowMask i = rowMatch i

theorem sll (rd : RegIdx) (rt : RegIdx) (sa : BitVec 5) : Statement (.sll rd rt sa) := rWord_row ..
theorem srl (rd : RegIdx) (rt : RegIdx) (sa : BitVec 5) : Statement (.srl rd rt sa) := rWord_row ..
theorem sra (rd : RegIdx) (rt : RegIdx) (sa : BitVec 5) : Statement (.sra rd rt sa) := rWord_row ..
theorem sllv (rd : RegIdx) (rt : RegIdx) (rs : RegIdx) : Statement (.sllv rd rt rs) := rWord_row ..
theorem srlv (rd : RegIdx) (rt : RegIdx) (rs : RegIdx) : Statement (.srlv rd rt rs) := rWord_row ..
theorem srav (rd : RegIdx) (rt : RegIdx) (rs : RegIdx) : Statement (.srav rd rt rs) := rWord_row ..
theorem jr (rs : RegIdx) : Statement (.jr rs) := rWord_row ..
theorem jalr (rd : RegIdx) (rs : RegIdx) : Statement (.jalr rd rs) := rWord_row ..
theorem syscall (code : BitVec 20) : Statement (.syscall code) := codeWord_row ..
theorem brk (code : BitVec 20) : Statement (.brk code) := codeWord_row ..
theorem mfhi (rd : RegIdx) : Statement (.mfhi rd) := rWord_row ..
theorem mthi (rs : RegIdx) : Statement (.mthi rs) := rWord_row ..
theorem mflo (rd : RegIdx) : Statement (.mflo rd) := rWord_row ..
theorem mtlo (rs : RegIdx) : Statement (.mtlo rs) := rWord_row ..
theorem mult (rs : RegIdx) (rt : RegIdx) : Statement (.mult rs rt) := rWord_row ..
theorem multu (rs : RegIdx) (rt : RegIdx) : Statement (.multu rs rt) := rWord_row ..
theorem div (rs : RegIdx) (rt : RegIdx) : Statement (.div rs rt) := rWord_row ..
theorem divu (rs : RegIdx) (rt : RegIdx) : Statement (.divu rs rt) := rWord_row ..
theorem add (rd : RegIdx) (rs : RegIdx) (rt : RegIdx) : Statement (.add rd rs rt) := rWord_row ..
theorem addu (rd : RegIdx) (rs : RegIdx) (rt : RegIdx) : Statement (.addu rd rs rt) := rWord_row ..
theorem sub (rd : RegIdx) (rs : RegIdx) (rt : RegIdx) : Statement (.sub rd rs rt) := rWord_row ..
theorem subu (rd : RegIdx) (rs : RegIdx) (rt : RegIdx) : Statement (.subu rd rs rt) := rWord_row ..
theorem and (rd : RegIdx) (rs : RegIdx) (rt : RegIdx) : Statement (.and rd rs rt) := rWord_row ..
theorem or (rd : RegIdx) (rs : RegIdx) (rt : RegIdx) : Statement (.or rd rs rt) := rWord_row ..
theorem xor (rd : RegIdx) (rs : RegIdx) (rt : RegIdx) : Statement (.xor rd rs rt) := rWord_row ..
theorem nor (rd : RegIdx) (rs : RegIdx) (rt : RegIdx) : Statement (.nor rd rs rt) := rWord_row ..
theorem slt (rd : RegIdx) (rs : RegIdx) (rt : RegIdx) : Statement (.slt rd rs rt) := rWord_row ..
theorem sltu (rd : RegIdx) (rs : RegIdx) (rt : RegIdx) : Statement (.sltu rd rs rt) := rWord_row ..
theorem bltzal (rs : RegIdx) (offset : Half) : Statement (.bltzal rs offset) := iWord_rowRt ..
theorem bgezal (rs : RegIdx) (offset : Half) : Statement (.bgezal rs offset) := iWord_rowRt ..
theorem bltz (rs : RegIdx) (offset : Half) : Statement (.bltz rs offset) := iWord_rowRt0 ..
theorem bgez (rs : RegIdx) (offset : Half) : Statement (.bgez rs offset) := iWord_rowRt0 ..
theorem j (target : BitVec 26) : Statement (.j target) := jWord_row ..
theorem jal (target : BitVec 26) : Statement (.jal target) := jWord_row ..
theorem beq (rs : RegIdx) (rt : RegIdx) (offset : Half) : Statement (.beq rs rt offset) := iWord_row ..
theorem bne (rs : RegIdx) (rt : RegIdx) (offset : Half) : Statement (.bne rs rt offset) := iWord_row ..
theorem blez (rs : RegIdx) (offset : Half) : Statement (.blez rs offset) := iWord_row ..
theorem bgtz (rs : RegIdx) (offset : Half) : Statement (.bgtz rs offset) := iWord_row ..
theorem addi (rt : RegIdx) (rs : RegIdx) (imm : Half) : Statement (.addi rt rs imm) := iWord_row ..
theorem addiu (rt : RegIdx) (rs : RegIdx) (imm : Half) : Statement (.addiu rt rs imm) := iWord_row ..
theorem slti (rt : RegIdx) (rs : RegIdx) (imm : Half) : Statement (.slti rt rs imm) := iWord_row ..
theorem sltiu (rt : RegIdx) (rs : RegIdx) (imm : Half) : Statement (.sltiu rt rs imm) := iWord_row ..
theorem andi (rt : RegIdx) (rs : RegIdx) (imm : Half) : Statement (.andi rt rs imm) := iWord_row ..
theorem ori (rt : RegIdx) (rs : RegIdx) (imm : Half) : Statement (.ori rt rs imm) := iWord_row ..
theorem xori (rt : RegIdx) (rs : RegIdx) (imm : Half) : Statement (.xori rt rs imm) := iWord_row ..
theorem lui (rt : RegIdx) (imm : Half) : Statement (.lui rt imm) := iWord_row ..
theorem mfc0 (rt : RegIdx) (rd : RegIdx) : Statement (.mfc0 rt rd) := copWord_row ..
theorem mtc0 (rt : RegIdx) (rd : RegIdx) : Statement (.mtc0 rt rd) := copWord_row ..
theorem rfe : Statement .rfe := rfl
theorem mfc2 (rt : RegIdx) (rd : RegIdx) : Statement (.mfc2 rt rd) := copWord_row ..
theorem cfc2 (rt : RegIdx) (rd : RegIdx) : Statement (.cfc2 rt rd) := copWord_row ..
theorem mtc2 (rt : RegIdx) (rd : RegIdx) : Statement (.mtc2 rt rd) := copWord_row ..
theorem ctc2 (rt : RegIdx) (rd : RegIdx) : Statement (.ctc2 rt rd) := copWord_row ..
theorem cop2 (command : BitVec 25) : Statement (.cop2 command) := cop2Word_row ..
theorem lb (rt : RegIdx) (offset : Half) (base : RegIdx) : Statement (.lb rt offset base) := iWord_row ..
theorem lh (rt : RegIdx) (offset : Half) (base : RegIdx) : Statement (.lh rt offset base) := iWord_row ..
theorem lwl (rt : RegIdx) (offset : Half) (base : RegIdx) : Statement (.lwl rt offset base) := iWord_row ..
theorem lw (rt : RegIdx) (offset : Half) (base : RegIdx) : Statement (.lw rt offset base) := iWord_row ..
theorem lbu (rt : RegIdx) (offset : Half) (base : RegIdx) : Statement (.lbu rt offset base) := iWord_row ..
theorem lhu (rt : RegIdx) (offset : Half) (base : RegIdx) : Statement (.lhu rt offset base) := iWord_row ..
theorem lwr (rt : RegIdx) (offset : Half) (base : RegIdx) : Statement (.lwr rt offset base) := iWord_row ..
theorem sb (rt : RegIdx) (offset : Half) (base : RegIdx) : Statement (.sb rt offset base) := iWord_row ..
theorem sh (rt : RegIdx) (offset : Half) (base : RegIdx) : Statement (.sh rt offset base) := iWord_row ..
theorem swl (rt : RegIdx) (offset : Half) (base : RegIdx) : Statement (.swl rt offset base) := iWord_row ..
theorem sw (rt : RegIdx) (offset : Half) (base : RegIdx) : Statement (.sw rt offset base) := iWord_row ..
theorem swr (rt : RegIdx) (offset : Half) (base : RegIdx) : Statement (.swr rt offset base) := iWord_row ..
theorem lwc2 (rt : RegIdx) (offset : Half) (base : RegIdx) : Statement (.lwc2 rt offset base) := iWord_row ..
theorem swc2 (rt : RegIdx) (offset : Half) (base : RegIdx) : Statement (.swc2 rt offset base) := iWord_row ..
theorem unimplemented (word : Word) : Statement (.unimplemented word) := BitVec.and_zero

end TableRow

end Sys2Proof.Laws
end

