-- ==== Sys2Proof/Tests/Slice0.lean ====
section
/-! SUPPORT. Tests on fixed values, each expected result copied from the spec (the vector's name in spec/95_test_vectors.md
stands in the docstring), and for every obligation with hypotheses a state and operands that meet them. -/

namespace Sys2Proof.Tests

open Sys2Proof.Machine Sys2Proof.Claims

/-! ### Small states -/

/-- The registers of a list, the others 0. -/
def registers (regs : List (RegIdx × Word)) : Vector Word 32 :=
  regs.foldl (fun g p => g.set p.1.toNat p.2 p.1.isLt) (Vector.replicate 32 0#32)

/-- The state with words put into memory. -/
def place (s : State) (words : List (Word × Word)) : State :=
  words.foldl (fun t p => { t with mem := t.putWord p.1 p.2 }) s

/-- The start of a single-step vector: `word` at 0x80001000, registers and memory words of the lists, `ext_irq` 0, the
operand view the registers. -/
def start (regs : List (RegIdx × Word)) (word : Word) (words : List (Word × Word) := []) : State :=
  place
    { State.reset with
      gpr := registers regs
      operandView := registers regs
      pc := 0x80001000#32
      nextPc := 0x80001004#32
      currentPc := 0x80001000#32
      irqFeed := [0#6] }
    ((0x80001000#32, word) :: words)

/-- What is seen of the state after one step. -/
def seen {α : Type} (s : State) (view : State → α) : Option α :=
  match step s with
  | .next t => some (view t)
  | .fault _ => none
  | .refused _ => none

/-- What an exception leaves: `EPC`, `CAUSE`, `SR`, `pc`, `next_pc`. -/
def entry (t : State) : Word × Word × Word × Word × Word := (t.epc, t.causeWord, t.sr, t.pc, t.nextPc)

/-! ### WellFormed -/

theorem test_wellFormed_refusesAWordOfSll : (Instr.unimplemented 0x00000000#32).wellFormed = false := by decide
theorem test_wellFormed_refusesAWordOfRfe : (Instr.unimplemented 0x421FFFD0#32).wellFormed = false := by decide
theorem test_wellFormed_refusesAWordOfCop2 : (Instr.unimplemented 0x4A180001#32).wellFormed = false := by decide
theorem test_wellFormed_acceptsR102 :
    (Instr.unimplemented 0xFFFFFFFF#32).wellFormed = true ∧ (Instr.unimplemented 0x0000000F#32).wellFormed = true ∧
    (Instr.unimplemented 0x42000001#32).wellFormed = true ∧ (Instr.unimplemented 0x48200000#32).wellFormed = true := by
  decide

/-! ### Decoding: words written out in the spec (spec/95_test_vectors.md, part 2) -/

/-- The words of tables 2.1. -/
theorem test_decode_arithmetic :
    decodeWord 0x00221820#32 = .add 3 1 2 ∧
    decodeWord 0x00221821#32 = .addu 3 1 2 ∧
    decodeWord 0x00221822#32 = .sub 3 1 2 ∧
    decodeWord 0x00221823#32 = .subu 3 1 2 ∧
    decodeWord 0x00221824#32 = .and 3 1 2 ∧
    decodeWord 0x00221825#32 = .or 3 1 2 ∧
    decodeWord 0x00221826#32 = .xor 3 1 2 ∧
    decodeWord 0x00221827#32 = .nor 3 1 2 ∧
    decodeWord 0x0022182A#32 = .slt 3 1 2 ∧
    decodeWord 0x0022182B#32 = .sltu 3 1 2 := by
  decide

/-- The words of table 2.2. -/
theorem test_decode_immediate :
    decodeWord 0x2023FFFF#32 = .addi 3 1 0xFFFF ∧
    decodeWord 0x24230001#32 = .addiu 3 1 1 ∧
    decodeWord 0x28238000#32 = .slti 3 1 0x8000 ∧
    decodeWord 0x2C23FFFF#32 = .sltiu 3 1 0xFFFF ∧
    decodeWord 0x3023FFFF#32 = .andi 3 1 0xFFFF ∧
    decodeWord 0x34238765#32 = .ori 3 1 0x8765 ∧
    decodeWord 0x3823FFFF#32 = .xori 3 1 0xFFFF ∧
    decodeWord 0x3C038000#32 = .lui 3 0x8000 := by
  decide

/-- The words of table 2.3. -/
theorem test_decode_shift :
    decodeWord 0x00021900#32 = .sll 3 2 4 ∧
    decodeWord 0x00021FC2#32 = .srl 3 2 31 ∧
    decodeWord 0x00021903#32 = .sra 3 2 4 ∧
    decodeWord 0x00221804#32 = .sllv 3 2 1 ∧
    decodeWord 0x00221806#32 = .srlv 3 2 1 ∧
    decodeWord 0x00221807#32 = .srav 3 2 1 := by
  decide

/-- The words of section 2.4. -/
theorem test_decode_mulDiv :
    decodeWord 0x00220018#32 = .mult 1 2 ∧
    decodeWord 0x00220019#32 = .multu 1 2 ∧
    decodeWord 0x0022001A#32 = .div 1 2 ∧
    decodeWord 0x0022001B#32 = .divu 1 2 ∧
    decodeWord 0x00200011#32 = .mthi 1 ∧
    decodeWord 0x00200013#32 = .mtlo 1 ∧
    decodeWord 0x00001810#32 = .mfhi 3 ∧
    decodeWord 0x00001812#32 = .mflo 3 := by
  decide

/-- The words of table 2.5. -/
theorem test_decode_branch :
    decodeWord 0x10220003#32 = .beq 1 2 3 ∧
    decodeWord 0x1420FFFD#32 = .bne 1 0 0xFFFD ∧
    decodeWord 0x18200001#32 = .blez 1 1 ∧
    decodeWord 0x1C200001#32 = .bgtz 1 1 ∧
    decodeWord 0x04200002#32 = .bltz 1 2 ∧
    decodeWord 0x04210002#32 = .bgez 1 2 ∧
    decodeWord 0x04300002#32 = .bltzal 1 2 ∧
    decodeWord 0x07F10002#32 = .bgezal 31 2 ∧
    decodeWord 0x04320002#32 = .bltz 1 2 ∧
    decodeWord 0x042F0002#32 = .bgez 1 2 ∧
    decodeWord 0x08040040#32 = .j 0x0040040 ∧
    decodeWord 0x0C000100#32 = .jal 0x100 ∧
    decodeWord 0x00800008#32 = .jr 4 ∧
    decodeWord 0x0080F809#32 = .jalr 31 4 := by
  decide

/-- The words of table 2.6. -/
theorem test_decode_loadStore :
    decodeWord 0x80230001#32 = .lb 3 1 1 ∧
    decodeWord 0x90230003#32 = .lbu 3 3 1 ∧
    decodeWord 0x84230002#32 = .lh 3 2 1 ∧
    decodeWord 0x94230006#32 = .lhu 3 6 1 ∧
    decodeWord 0x8C43FFFC#32 = .lw 3 0xFFFC 2 ∧
    decodeWord 0xA0220003#32 = .sb 2 3 1 ∧
    decodeWord 0xA4220002#32 = .sh 2 2 1 ∧
    decodeWord 0xAC220000#32 = .sw 2 0 1 := by
  decide

/-- The words of table 2.7. -/
theorem test_decode_unaligned :
    decodeWord 0x88220001#32 = .lwl 2 1 1 ∧
    decodeWord 0x98220002#32 = .lwr 2 2 1 ∧
    decodeWord 0xA8220003#32 = .swl 2 3 1 ∧
    decodeWord 0xB8220006#32 = .swr 2 6 1 := by
  decide

/-- The words of section 2.8. -/
theorem test_decode_cop0 :
    decodeWord 0x40036800#32 = .mfc0 3 13 ∧
    decodeWord 0x40826000#32 = .mtc0 2 12 ∧
    decodeWord 0x42000010#32 = .rfe ∧
    decodeWord 0x421FFFD0#32 = .rfe := by
  decide

/-- The words of table 2.9. -/
theorem test_decode_trap :
    decodeWord 0x0000004C#32 = .syscall 1 ∧
    decodeWord 0x0007000D#32 = .brk 0x1C00 := by
  decide

/-- The words of table 2.10. -/
theorem test_decode_cop2 :
    decodeWord 0x4802C800#32 = .mfc2 2 25 ∧
    decodeWord 0x4842F800#32 = .cfc2 2 31 ∧
    decodeWord 0x48820000#32 = .mtc2 2 0 ∧
    decodeWord 0x48C20000#32 = .ctc2 2 0 ∧
    decodeWord 0x4A180001#32 = .cop2 0x0180001 ∧
    decodeWord 0xC8800001#32 = .lwc2 0 1 4 ∧
    decodeWord 0xE8990008#32 = .swc2 25 8 4 := by
  decide

/-- The words of table 2.11 and VG11, VK23. -/
theorem test_decode_unimplemented :
    decodeWord 0xFFFFFFFF#32 = .unimplemented 0xFFFFFFFF#32 ∧
    decodeWord 0x0000000F#32 = .unimplemented 0x0000000F#32 ∧
    decodeWord 0x70000000#32 = .unimplemented 0x70000000#32 ∧
    decodeWord 0x44000000#32 = .unimplemented 0x44000000#32 ∧
    decodeWord 0x9C000000#32 = .unimplemented 0x9C000000#32 ∧
    decodeWord 0xE0000000#32 = .unimplemented 0xE0000000#32 ∧
    decodeWord 0x48600000#32 = .unimplemented 0x48600000#32 ∧
    decodeWord 0x42000018#32 = .unimplemented 0x42000018#32 ∧
    decodeWord 0x41000000#32 = .unimplemented 0x41000000#32 := by
  decide

/-- Bits written out: `ADD` is `000000 sssss ttttt ddddd ----- 100000` (R141), `LW` is `100011 sssss ttttt` and the
displacement (R228), `J` is `000010` and the target (R205). -/
theorem test_decode_bitByBit :
    decodeWord 0b00000000001000100001100000100000#32 = .add 3 1 2 ∧
    decodeWord 0b10001111101010000000000000000000#32 = .lw 8 0 29 ∧
    decodeWord 0b00001000000001000000000001000000#32 = .j 0x0040040 := by
  decide

/-- Four bytes in memory order, the least significant first (R65); three bytes hold no instruction. -/
theorem test_decode_bytes :
    decode [0x20, 0x18, 0x22, 0x00, 0xFF] = .ok (.add 3 1 2, [0xFF]) ∧
    decode [0x20, 0x18, 0x22] = .error (.tooShort 3) ∧ decodeTableWord 32 0x00221820 = some (.add 3 1 2) := by
  decide

/-! ### One step for every instruction -/

/-- VA5: unsigned carry is not overflow. -/
theorem test_add :
    (seen (start [(1, 0xFFFFFFFF#32), (2, 0x1#32), (3, 0xDEADBEEF#32)] 0x00221820#32) fun t =>
        (t.xpost 3, t.pc, t.epc)) =
      some (0x00000000#32, 0x80001004#32, 0#32) := by
  decide

/-- VA2. -/
theorem test_add_overflow :
    (seen (start [(1, 0x7FFFFFFF#32), (2, 0x1#32), (3, 0xDEADBEEF#32)] 0x00221820#32) fun t => (t.xpost 3, entry t)) =
      some (0xDEADBEEF#32, 0x80001000#32, 0x00000030#32, 0x00400000#32, 0xBFC00180#32, 0xBFC00184#32) := by
  decide

/-- VA6. -/
theorem test_addu :
    (seen (start [(1, 0x7FFFFFFF#32), (2, 0x1#32), (3, 0xDEADBEEF#32)] 0x00221821#32) fun t =>
        (t.xpost 3, t.pc, t.epc)) =
      some (0x80000000#32, 0x80001004#32, 0#32) := by
  decide

/-- VA8. -/
theorem test_sub :
    (seen (start [(1, 0x5#32), (2, 0x7#32), (3, 0xDEADBEEF#32)] 0x00221822#32) fun t => (t.xpost 3, t.pc, t.epc)) =
      some (0xFFFFFFFE#32, 0x80001004#32, 0#32) := by
  decide

/-- VA11: `0 - INT32_MIN`. -/
theorem test_sub_overflow :
    (seen (start [(1, 0x0#32), (2, 0x80000000#32), (3, 0xDEADBEEF#32)] 0x00221822#32) fun t => (t.xpost 3, entry t)) =
      some (0xDEADBEEF#32, 0x80001000#32, 0x00000030#32, 0x00400000#32, 0xBFC00180#32, 0xBFC00184#32) := by
  decide

/-- VA14. -/
theorem test_subu :
    (seen (start [(1, 0x80000000#32), (2, 0x1#32), (3, 0xDEADBEEF#32)] 0x00221823#32) fun t =>
        (t.xpost 3, t.pc, t.epc)) =
      some (0x7FFFFFFF#32, 0x80001004#32, 0#32) := by
  decide

/-- VA15. -/
theorem test_and :
    (seen (start [(1, 0xFF00FF00#32), (2, 0x0FF00FF0#32), (3, 0xDEADBEEF#32)] 0x00221824#32) fun t =>
        (t.xpost 3, t.pc, t.epc)) =
      some (0x0F000F00#32, 0x80001004#32, 0#32) := by
  decide

/-- VA16. -/
theorem test_or :
    (seen (start [(1, 0xFF00FF00#32), (2, 0x0FF00FF0#32), (3, 0xDEADBEEF#32)] 0x00221825#32) fun t =>
        (t.xpost 3, t.pc, t.epc)) =
      some (0xFFF0FFF0#32, 0x80001004#32, 0#32) := by
  decide

/-- VA17. -/
theorem test_xor :
    (seen (start [(1, 0xFF00FF00#32), (2, 0x0FF00FF0#32), (3, 0xDEADBEEF#32)] 0x00221826#32) fun t =>
        (t.xpost 3, t.pc, t.epc)) =
      some (0xF0F0F0F0#32, 0x80001004#32, 0#32) := by
  decide

/-- VA18. -/
theorem test_nor :
    (seen (start [(1, 0xFF00FF00#32), (2, 0x0FF00FF0#32), (3, 0xDEADBEEF#32)] 0x00221827#32) fun t =>
        (t.xpost 3, t.pc, t.epc)) =
      some (0x000F000F#32, 0x80001004#32, 0#32) := by
  decide

/-- VA20: -1 < 1. -/
theorem test_slt :
    (seen (start [(1, 0xFFFFFFFF#32), (2, 0x1#32), (3, 0xDEADBEEF#32)] 0x0022182A#32) fun t =>
        (t.xpost 3, t.pc, t.epc)) =
      some (0x00000001#32, 0x80001004#32, 0#32) := by
  decide

/-- VA24. -/
theorem test_sltu :
    (seen (start [(1, 0xFFFFFFFF#32), (2, 0x1#32), (3, 0xDEADBEEF#32)] 0x0022182B#32) fun t =>
        (t.xpost 3, t.pc, t.epc)) =
      some (0x00000000#32, 0x80001004#32, 0#32) := by
  decide

/-- VI4. -/
theorem test_addi :
    (seen (start [(1, 0x7FFF8000#32), (3, 0xDEADBEEF#32)] 0x20237FFF#32) fun t => (t.xpost 3, t.pc, t.epc)) =
      some (0x7FFFFFFF#32, 0x80001004#32, 0#32) := by
  decide

/-- VI3: the immediate is -1. -/
theorem test_addi_overflow :
    (seen (start [(1, 0x80000000#32), (3, 0xDEADBEEF#32)] 0x2023FFFF#32) fun t => (t.xpost 3, entry t)) =
      some (0xDEADBEEF#32, 0x80001000#32, 0x00000030#32, 0x00400000#32, 0xBFC00180#32, 0xBFC00184#32) := by
  decide

/-- VI7: the immediate is sign-extended. -/
theorem test_addiu :
    (seen (start [(1, 0x0#32), (3, 0xDEADBEEF#32)] 0x2423FFFF#32) fun t => (t.xpost 3, t.pc, t.epc)) =
      some (0xFFFFFFFF#32, 0x80001004#32, 0#32) := by
  decide

/-- VI10. -/
theorem test_slti :
    (seen (start [(1, 0x80000000#32), (3, 0xDEADBEEF#32)] 0x28238000#32) fun t => (t.xpost 3, t.pc, t.epc)) =
      some (0x00000001#32, 0x80001004#32, 0#32) := by
  decide

/-- VI14: compares with FFFF8000. -/
theorem test_sltiu :
    (seen (start [(1, 0xFFFF7FFF#32), (3, 0xDEADBEEF#32)] 0x2C238000#32) fun t => (t.xpost 3, t.pc, t.epc)) =
      some (0x00000001#32, 0x80001004#32, 0#32) := by
  decide

/-- VI15: zero-extended. -/
theorem test_andi :
    (seen (start [(1, 0x12345678#32), (3, 0xDEADBEEF#32)] 0x3023FFFF#32) fun t => (t.xpost 3, t.pc, t.epc)) =
      some (0x00005678#32, 0x80001004#32, 0#32) := by
  decide

/-- VI17. -/
theorem test_ori :
    (seen (start [(1, 0x12340000#32), (3, 0xDEADBEEF#32)] 0x34238765#32) fun t => (t.xpost 3, t.pc, t.epc)) =
      some (0x12348765#32, 0x80001004#32, 0#32) := by
  decide

/-- VI18. -/
theorem test_xori :
    (seen (start [(1, 0x12345678#32), (3, 0xDEADBEEF#32)] 0x3823FFFF#32) fun t => (t.xpost 3, t.pc, t.epc)) =
      some (0x1234A987#32, 0x80001004#32, 0#32) := by
  decide

/-- VI20. -/
theorem test_lui :
    (seen (start [(1, 0x0#32), (3, 0xDEADBEEF#32)] 0x3C03FFFF#32) fun t => (t.xpost 3, t.pc, t.epc)) =
      some (0xFFFF0000#32, 0x80001004#32, 0#32) := by
  decide

/-- VH2. -/
theorem test_sll :
    (seen (start [(1, 0x0#32), (2, 0x80000001#32)] 0x00021FC0#32) fun t => (t.xpost 3, t.pc, t.epc)) =
      some (0x80000000#32, 0x80001004#32, 0#32) := by
  decide

/-- VH4. -/
theorem test_srl :
    (seen (start [(1, 0x0#32), (2, 0x80000000#32)] 0x00021FC2#32) fun t => (t.xpost 3, t.pc, t.epc)) =
      some (0x00000001#32, 0x80001004#32, 0#32) := by
  decide

/-- VH8. -/
theorem test_sra :
    (seen (start [(1, 0x0#32), (2, 0x80000000#32)] 0x00021903#32) fun t => (t.xpost 3, t.pc, t.epc)) =
      some (0xF8000000#32, 0x80001004#32, 0#32) := by
  decide

/-- VH13: amount 4. -/
theorem test_sllv :
    (seen (start [(1, 0xFFFFFFE4#32), (2, 0x12345678#32)] 0x00221804#32) fun t => (t.xpost 3, t.pc, t.epc)) =
      some (0x23456780#32, 0x80001004#32, 0#32) := by
  decide

/-- VH15: 32 mod 32 = 0. -/
theorem test_srlv :
    (seen (start [(1, 0x20#32), (2, 0x80000000#32)] 0x00221806#32) fun t => (t.xpost 3, t.pc, t.epc)) =
      some (0x80000000#32, 0x80001004#32, 0#32) := by
  decide

/-- VH16: amount 4. -/
theorem test_srav :
    (seen (start [(1, 0x24#32), (2, 0x80000000#32)] 0x00221807#32) fun t => (t.xpost 3, t.pc, t.epc)) =
      some (0xF8000000#32, 0x80001004#32, 0#32) := by
  decide

/-- VM4. -/
theorem test_mult :
    (seen (start [(1, 0x80000000#32), (2, 0x7FFFFFFF#32)] 0x00220018#32) fun t => (t.hi, t.lo, t.pc)) =
      some (0xC0000000#32, 0x80000000#32, 0x80001004#32) := by
  decide

/-- VM6. -/
theorem test_multu :
    (seen (start [(1, 0xFFFFFFFF#32), (2, 0xFFFFFFFF#32)] 0x00220019#32) fun t => (t.hi, t.lo, t.pc)) =
      some (0xFFFFFFFE#32, 0x00000001#32, 0x80001004#32) := by
  decide

/-- VM10: -7 by 2. -/
theorem test_div :
    (seen (start [(1, 0xFFFFFFF9#32), (2, 0x2#32)] 0x0022001A#32) fun t => (t.hi, t.lo, t.pc)) =
      some (0xFFFFFFFF#32, 0xFFFFFFFD#32, 0x80001004#32) := by
  decide

/-- SE3: -5 by 0. -/
theorem test_div_byZero :
    (seen (start [(1, 0xFFFFFFFB#32), (2, 0x0#32)] 0x0022001A#32) fun t => (t.hi, t.lo, t.pc)) =
      some (0xFFFFFFFB#32, 0xFFFFFFFF#32, 0x80001004#32) := by
  decide

/-- VM20. -/
theorem test_divu :
    (seen (start [(1, 0xFFFFFFFF#32), (2, 0x2#32)] 0x0022001B#32) fun t => (t.hi, t.lo, t.pc)) =
      some (0x00000001#32, 0x7FFFFFFF#32, 0x80001004#32) := by
  decide

/-- VM21. -/
theorem test_divu_byZero :
    (seen (start [(1, 0x5#32), (2, 0x0#32)] 0x0022001B#32) fun t => (t.hi, t.lo, t.pc)) =
      some (0x00000005#32, 0xFFFFFFFF#32, 0x80001004#32) := by
  decide

/-- Section 2.4, moves. -/
theorem test_mthi :
    (seen ({ start [(1, 0x0000ABCD#32), (2, 0x0#32)] 0x00200011#32 with hi := 1#32, lo := 2#32 }) fun t =>
        (t.hi, t.lo, t.pc)) =
      some (0x0000ABCD#32, 0x00000002#32, 0x80001004#32) := by
  decide

/-- Section 2.4, moves. -/
theorem test_mtlo :
    (seen ({ start [(1, 0x0000ABCD#32), (2, 0x0#32)] 0x00200013#32 with hi := 1#32, lo := 2#32 }) fun t =>
        (t.hi, t.lo, t.pc)) =
      some (0x00000001#32, 0x0000ABCD#32, 0x80001004#32) := by
  decide

/-- Section 2.4, moves. -/
theorem test_mfhi :
    (seen ({ start [] 0x00001810#32 with hi := 0xAAAA5555#32 }) fun t => (t.xpost 3, t.pc)) =
      some (0xAAAA5555#32, 0x80001004#32) := by
  decide

/-- Section 2.4, moves. -/
theorem test_mflo :
    (seen ({ start [] 0x00001812#32 with lo := 0x5555AAAA#32 }) fun t => (t.xpost 3, t.pc)) =
      some (0x5555AAAA#32, 0x80001004#32) := by
  decide

/-- VJ1. -/
theorem test_beq :
    (seen (start [(1, 5#32), (2, 5#32)] 0x10220003#32) fun t =>
        (t.nextPc, t.branchDelayActive, t.branchTaken, t.xpost 31, t.pc)) =
      some (0x80001010#32, true, true, 0x00000000#32, 0x80001004#32) := by
  decide

/-- VJ2. -/
theorem test_beq_notTaken :
    (seen (start [(1, 5#32), (2, 6#32)] 0x10220003#32) fun t =>
        (t.nextPc, t.branchDelayActive, t.branchTaken, t.xpost 31, t.pc)) =
      some (0x80001008#32, true, false, 0x00000000#32, 0x80001004#32) := by
  decide

/-- VJ3. -/
theorem test_bne :
    (seen (start [(1, 1#32)] 0x1420FFFD#32) fun t =>
        (t.nextPc, t.branchDelayActive, t.branchTaken, t.xpost 31, t.pc)) =
      some (0x80000FF8#32, true, true, 0x00000000#32, 0x80001004#32) := by
  decide

/-- VJ7. -/
theorem test_blez :
    (seen (start [(1, 1#32)] 0x18200001#32) fun t =>
        (t.nextPc, t.branchDelayActive, t.branchTaken, t.xpost 31, t.pc)) =
      some (0x80001008#32, true, false, 0x00000000#32, 0x80001004#32) := by
  decide

/-- VJ9. -/
theorem test_bgtz :
    (seen (start [(1, 0x7FFFFFFF#32)] 0x1C200001#32) fun t =>
        (t.nextPc, t.branchDelayActive, t.branchTaken, t.xpost 31, t.pc)) =
      some (0x80001008#32, true, true, 0x00000000#32, 0x80001004#32) := by
  decide

/-- VJ20: `rt` = 0x12 is `BLTZ` and does not link. -/
theorem test_bltz :
    (seen (start [(1, 0xFFFFFFFF#32)] 0x04320002#32) fun t =>
        (t.nextPc, t.branchDelayActive, t.branchTaken, t.xpost 31, t.pc)) =
      some (0x8000100C#32, true, true, 0x00000000#32, 0x80001004#32) := by
  decide

/-- VJ13. -/
theorem test_bgez :
    (seen (start [] 0x04210002#32) fun t => (t.nextPc, t.branchDelayActive, t.branchTaken, t.xpost 31, t.pc)) =
      some (0x8000100C#32, true, true, 0x00000000#32, 0x80001004#32) := by
  decide

/-- VJ16: the link is written though not taken. -/
theorem test_bltzal :
    (seen (start [(1, 1#32)] 0x04300002#32) fun t =>
        (t.nextPc, t.branchDelayActive, t.branchTaken, t.xpost 31, t.pc)) =
      some (0x80001008#32, true, false, 0x80001008#32, 0x80001004#32) := by
  decide

/-- VJ19: it tests the old `$31`. -/
theorem test_bgezal :
    (seen (start [(31, 0x80000000#32)] 0x07F10002#32) fun t =>
        (t.nextPc, t.branchDelayActive, t.branchTaken, t.xpost 31, t.pc)) =
      some (0x80001008#32, true, false, 0x80001008#32, 0x80001004#32) := by
  decide

/-- VJ24. -/
theorem test_j :
    (seen (start [] 0x08040040#32) fun t => (t.nextPc, t.branchDelayActive, t.branchTaken, t.xpost 31, t.pc)) =
      some (0x80100100#32, true, true, 0x00000000#32, 0x80001004#32) := by
  decide

/-- VJ25. -/
theorem test_jal :
    (seen (start [] 0x0C000100#32) fun t => (t.nextPc, t.branchDelayActive, t.branchTaken, t.xpost 31, t.pc)) =
      some (0x80000400#32, true, true, 0x80001008#32, 0x80001004#32) := by
  decide

/-- VJ26. -/
theorem test_jr :
    (seen (start [(4, 0x80002000#32)] 0x00800008#32) fun t =>
        (t.nextPc, t.branchDelayActive, t.branchTaken, t.xpost 31, t.pc)) =
      some (0x80002000#32, true, true, 0x00000000#32, 0x80001004#32) := by
  decide

/-- VJ28: the target is the old `$4`. -/
theorem test_jalr :
    (seen (start [(4, 0x80002000#32)] 0x00802009#32) fun t => (t.nextPc, t.branchTaken, t.xpost 4)) =
      some (0x80002000#32, true, 0x80001008#32) := by
  decide

/-- VJ30: the region is that of the delay slot. -/
theorem test_j_region :
    (seen ({ start [] 0#32 [(0x8FFFFFFC#32, 0x0BFFFFFF#32)] with
        pc := 0x8FFFFFFC#32, nextPc := 0x90000000#32 }) fun t =>
        (t.pc, t.nextPc)) =
      some (0x90000000#32, 0x9FFFFFFC#32) := by
  decide

/-- VL4. -/
theorem test_lb :
    (seen (start [(1, 0x80002000#32), (2, 0x80002004#32), (3, 0xDEADBEEF#32)] 0x80230003#32
      [(0x80002000#32, 0x80FF7F01#32), (0x80002004#32, 0x8000FFFF#32)]) fun t =>
        (t.pendingLoad, (t.bus.drop 1).map fun o => (o.kind, o.width, o.addr))) =
      some (some ⟨3, 0xDEADBEEF#32, 0xFFFFFF80#32⟩, [(.read, .byte, 0x80002003#32)]) := by
  decide

/-- VL5. -/
theorem test_lbu :
    (seen (start [(1, 0x80002000#32), (2, 0x80002004#32), (3, 0xDEADBEEF#32)] 0x90230003#32
      [(0x80002000#32, 0x80FF7F01#32), (0x80002004#32, 0x8000FFFF#32)]) fun t =>
        (t.pendingLoad, (t.bus.drop 1).map fun o => (o.kind, o.width, o.addr))) =
      some (some ⟨3, 0xDEADBEEF#32, 0x00000080#32⟩, [(.read, .byte, 0x80002003#32)]) := by
  decide

/-- VL8. -/
theorem test_lh :
    (seen (start [(1, 0x80002000#32), (2, 0x80002004#32), (3, 0xDEADBEEF#32)] 0x84230002#32
      [(0x80002000#32, 0x80FF7F01#32), (0x80002004#32, 0x8000FFFF#32)]) fun t =>
        (t.pendingLoad, (t.bus.drop 1).map fun o => (o.kind, o.width, o.addr))) =
      some (some ⟨3, 0xDEADBEEF#32, 0xFFFF80FF#32⟩, [(.read, .half, 0x80002002#32)]) := by
  decide

/-- VL12. -/
theorem test_lh_misaligned :
    (seen (start [(1, 0x80002000#32), (3, 0xDEADBEEF#32)] 0x84230001#32
      [(0x80002000#32, 0x80FF7F01#32), (0x80002004#32, 0x8000FFFF#32)]) fun t =>
        (t.pendingLoad, t.bus.length, t.badVAddr, t.epc, t.causeWord, t.pc)) =
      some (none, 1, 0x80002001#32, 0x80001000#32, 0x00000010#32, 0xBFC00180#32) := by
  decide

/-- VL11. -/
theorem test_lhu :
    (seen (start [(1, 0x80002000#32), (2, 0x80002004#32), (3, 0xDEADBEEF#32)] 0x94230006#32
      [(0x80002000#32, 0x80FF7F01#32), (0x80002004#32, 0x8000FFFF#32)]) fun t =>
        (t.pendingLoad, (t.bus.drop 1).map fun o => (o.kind, o.width, o.addr))) =
      some (some ⟨3, 0xDEADBEEF#32, 0x00008000#32⟩, [(.read, .half, 0x80002006#32)]) := by
  decide

/-- VL18: negative displacement. -/
theorem test_lw :
    (seen (start [(1, 0x80002000#32), (2, 0x80002004#32), (3, 0xDEADBEEF#32)] 0x8C43FFFC#32
      [(0x80002000#32, 0x80FF7F01#32), (0x80002004#32, 0x8000FFFF#32)]) fun t =>
        (t.pendingLoad, (t.bus.drop 1).map fun o => (o.kind, o.width, o.addr))) =
      some (some ⟨3, 0xDEADBEEF#32, 0x80FF7F01#32⟩, [(.read, .word, 0x80002000#32)]) := by
  decide

/-- VL16. -/
theorem test_lw_misaligned :
    (seen (start [(1, 0x80002000#32), (3, 0xDEADBEEF#32)] 0x8C230002#32
      [(0x80002000#32, 0x80FF7F01#32), (0x80002004#32, 0x8000FFFF#32)]) fun t =>
        (t.pendingLoad, t.bus.length, t.badVAddr, t.epc, t.causeWord, t.pc)) =
      some (none, 1, 0x80002002#32, 0x80001000#32, 0x00000010#32, 0xBFC00180#32) := by
  decide

/-- VL21. -/
theorem test_sb :
    (seen (start [(1, 0x80002000#32), (2, 0xAABBCCDD#32)] 0xA0220003#32 [(0x80002000#32, 0x12345678#32)]) fun t =>
        (t.bus.drop 1, t.wordAt 0x80002000#32)) =
      some ([⟨.write, .byte, 0x80002003#32, 0xDD#32⟩], 0xDD345678#32) := by
  decide

/-- VL23. -/
theorem test_sh :
    (seen (start [(1, 0x80002000#32), (2, 0xAABBCCDD#32)] 0xA4220002#32 [(0x80002000#32, 0x12345678#32)]) fun t =>
        (t.bus.drop 1, t.wordAt 0x80002000#32)) =
      some ([⟨.write, .half, 0x80002002#32, 0xCCDD#32⟩], 0xCCDD5678#32) := by
  decide

/-- VL24. -/
theorem test_sh_misaligned :
    (seen (start [(1, 0x80002000#32), (3, 0xDEADBEEF#32)] 0xA4220001#32
      [(0x80002000#32, 0x80FF7F01#32), (0x80002004#32, 0x8000FFFF#32)]) fun t =>
        (t.pendingLoad, t.bus.length, t.badVAddr, t.epc, t.causeWord, t.pc)) =
      some (none, 1, 0x80002001#32, 0x80001000#32, 0x00000014#32, 0xBFC00180#32) := by
  decide

/-- VL25. -/
theorem test_sw :
    (seen (start [(1, 0x80002000#32), (2, 0xAABBCCDD#32)] 0xAC220000#32 [(0x80002000#32, 0x12345678#32)]) fun t =>
        (t.bus.drop 1, t.wordAt 0x80002000#32)) =
      some ([⟨.write, .word, 0x80002000#32, 0xAABBCCDD#32⟩], 0xAABBCCDD#32) := by
  decide

/-- VL27. -/
theorem test_sw_misaligned :
    (seen (start [(1, 0x80002000#32), (3, 0xDEADBEEF#32)] 0xAC220003#32
      [(0x80002000#32, 0x80FF7F01#32), (0x80002004#32, 0x8000FFFF#32)]) fun t =>
        (t.pendingLoad, t.bus.length, t.badVAddr, t.epc, t.causeWord, t.pc)) =
      some (none, 1, 0x80002003#32, 0x80001000#32, 0x00000014#32, 0xBFC00180#32) := by
  decide

/-- VU2. -/
theorem test_lwl :
    (seen (start [(1, 0x80002000#32), (2, 0xAABBCCDD#32)] 0x88220001#32 [(0x80002000#32, 0x12345678#32)]) fun t =>
        (t.pendingLoad, t.bus.drop 1)) =
      some (some ⟨2, 0xAABBCCDD#32, 0x5678CCDD#32⟩, [⟨.read, .word, 0x80002000#32, 0x12345678#32⟩]) := by
  decide

/-- VU1. -/
theorem test_lwl_first :
    (seen (start [(1, 0x80002000#32), (2, 0xAABBCCDD#32)] 0x88220000#32 [(0x80002000#32, 0x12345678#32)]) fun t =>
        (t.pendingLoad, t.bus.drop 1)) =
      some (some ⟨2, 0xAABBCCDD#32, 0x78BBCCDD#32⟩, [⟨.read, .word, 0x80002000#32, 0x12345678#32⟩]) := by
  decide

/-- VU7. -/
theorem test_lwr :
    (seen (start [(1, 0x80002000#32), (2, 0xAABBCCDD#32)] 0x98220002#32 [(0x80002000#32, 0x12345678#32)]) fun t =>
        (t.pendingLoad, t.bus.drop 1)) =
      some (some ⟨2, 0xAABBCCDD#32, 0xAABB1234#32⟩, [⟨.read, .word, 0x80002000#32, 0x12345678#32⟩]) := by
  decide

/-- VU8. -/
theorem test_lwr_last :
    (seen (start [(1, 0x80002000#32), (2, 0xAABBCCDD#32)] 0x98220003#32 [(0x80002000#32, 0x12345678#32)]) fun t =>
        (t.pendingLoad, t.bus.drop 1)) =
      some (some ⟨2, 0xAABBCCDD#32, 0xAABBCC12#32⟩, [⟨.read, .word, 0x80002000#32, 0x12345678#32⟩]) := by
  decide

/-- VU10. -/
theorem test_swl :
    (seen (start [(1, 0x80002000#32), (2, 0xAABBCCDD#32)] 0xA8220001#32 [(0x80002000#32, 0x12345678#32)]) fun t =>
        (t.bus.drop 1, t.wordAt 0x80002000#32)) =
      some ([⟨.read, .word, 0x80002000#32, 0x12345678#32⟩, ⟨.write, .word, 0x80002000#32, 0x1234AABB#32⟩], 0x1234AABB#32) := by
  decide

/-- VU9. -/
theorem test_swl_first :
    (seen (start [(1, 0x80002000#32), (2, 0xAABBCCDD#32)] 0xA8220000#32 [(0x80002000#32, 0x12345678#32)]) fun t =>
        (t.bus.drop 1, t.wordAt 0x80002000#32)) =
      some ([⟨.read, .word, 0x80002000#32, 0x12345678#32⟩, ⟨.write, .word, 0x80002000#32, 0x123456AA#32⟩], 0x123456AA#32) := by
  decide

/-- VU15. -/
theorem test_swr :
    (seen (start [(1, 0x80002000#32), (2, 0xAABBCCDD#32)] 0xB8220002#32 [(0x80002000#32, 0x12345678#32)]) fun t =>
        (t.bus.drop 1, t.wordAt 0x80002000#32)) =
      some ([⟨.read, .word, 0x80002000#32, 0x12345678#32⟩, ⟨.write, .word, 0x80002000#32, 0xCCDD5678#32⟩], 0xCCDD5678#32) := by
  decide

/-- VU16. -/
theorem test_swr_last :
    (seen (start [(1, 0x80002000#32), (2, 0xAABBCCDD#32)] 0xB8220003#32 [(0x80002000#32, 0x12345678#32)]) fun t =>
        (t.bus.drop 1, t.wordAt 0x80002000#32)) =
      some ([⟨.read, .word, 0x80002000#32, 0x12345678#32⟩, ⟨.write, .word, 0x80002000#32, 0xDD345678#32⟩], 0xDD345678#32) := by
  decide

/-- VK9 with `ext_irq` 0b100101: the second word. -/
theorem test_mfc0 :
    (seen ({ start [(3, 0xDEADBEEF#32)] 0x40036800#32 with
        sr := 0#32, cause := ⟨false, 3#2, 0#5⟩, irqFeed := [0b100101#6] }) fun t =>
        (t.pendingLoad, t.pc)) =
      some (some ⟨3, 0xDEADBEEF#32, 0x00009700#32⟩, 0x80001004#32) := by
  decide

/-- VK12. -/
theorem test_mfc0_noRegister :
    (seen (start [(3, 0xDEADBEEF#32)] 0x40030000#32) fun t => (t.pendingLoad, t.diag)) =
      some (none, some ⟨0x40030000#32, 0x80001000#32⟩) := by
  decide

/-- VK9: two bits of CAUSE are writable. -/
theorem test_mtc0 :
    (seen (start [(2, 0xFFFFFFFF#32)] 0x40826800#32) fun t => (t.causeWord, t.pc)) =
      some (0x00000300#32, 0x80001004#32) := by
  decide

/-- SE9: EPC is read-only. -/
theorem test_mtc0_readOnly :
    (seen (start [(2, 0xFFFFFFFF#32)] 0x40827000#32) fun t => (t.epc, t.diag)) =
      some (0#32, none) := by
  decide

/-- VK20. -/
theorem test_rfe :
    (seen ({ start [] 0x42000010#32 with sr := 0xF27FFF3C#32 }) fun t => (t.sr, t.pc)) =
      some (0xF27FFF3F#32, 0x80001004#32) := by
  decide

/-- VY3. -/
theorem test_syscall :
    (seen ({ start [] 0x0000000C#32 with sr := 0x0000FF15#32 }) fun t => entry t) =
      some (0x80001000#32, 0x00000020#32, 0x0000FF14#32, 0x80000080#32, 0x80000084#32) := by
  decide

/-- VY10. -/
theorem test_break :
    (seen ({ start [] 0x0007000D#32 with sr := 0x00400401#32 }) fun t => entry t) =
      some (0x80001000#32, 0x00000024#32, 0x00400404#32, 0xBFC00140#32, 0xBFC00144#32) := by
  decide

/-- VG1. -/
theorem test_mfc2 :
    (seen (start [(2, 0xDEADBEEF#32), (4, 0x80002000#32)] 0x4802C800#32) fun t =>
        (t.cop2, t.pendingLoad, t.bus.length, t.xpost 2)) =
      some (some ⟨0x4802C800#32, none, none⟩, none, 1, 0xDEADBEEF#32) := by
  decide

/-- VG2. -/
theorem test_cfc2 :
    (seen (start [(2, 0xDEADBEEF#32), (4, 0x80002000#32)] 0x4842F800#32) fun t =>
        (t.cop2, t.pendingLoad, t.bus.length, t.xpost 2)) =
      some (some ⟨0x4842F800#32, none, none⟩, none, 1, 0xDEADBEEF#32) := by
  decide

/-- VG3. -/
theorem test_mtc2 :
    (seen (start [(2, 0xDEADBEEF#32), (4, 0x80002000#32)] 0x48820000#32) fun t =>
        (t.cop2, t.pendingLoad, t.bus.length, t.xpost 2)) =
      some (some ⟨0x48820000#32, none, some 0xDEADBEEF#32⟩, none, 1, 0xDEADBEEF#32) := by
  decide

/-- VG4. -/
theorem test_ctc2 :
    (seen (start [(2, 0xDEADBEEF#32), (4, 0x80002000#32)] 0x48C20000#32) fun t =>
        (t.cop2, t.pendingLoad, t.bus.length, t.xpost 2)) =
      some (some ⟨0x48C20000#32, none, some 0xDEADBEEF#32⟩, none, 1, 0xDEADBEEF#32) := by
  decide

/-- VG6. -/
theorem test_cop2 :
    (seen (start [(2, 0xDEADBEEF#32), (4, 0x80002000#32)] 0x4BFFFFFF#32) fun t =>
        (t.cop2, t.pendingLoad, t.bus.length, t.xpost 2)) =
      some (some ⟨0x4BFFFFFF#32, none, none⟩, none, 1, 0xDEADBEEF#32) := by
  decide

/-- VG8: no address error. -/
theorem test_lwc2 :
    (seen (start [(2, 0xDEADBEEF#32), (4, 0x80002000#32)] 0xC8800001#32) fun t =>
        (t.cop2, t.pendingLoad, t.bus.length, t.xpost 2)) =
      some (some ⟨0xC8800001#32, some 0x80002001#32, none⟩, none, 1, 0xDEADBEEF#32) := by
  decide

/-- VG10: no address error. -/
theorem test_swc2 :
    (seen (start [(2, 0xDEADBEEF#32), (4, 0x80002000#32)] 0xE8990003#32) fun t =>
        (t.cop2, t.pendingLoad, t.bus.length, t.xpost 2)) =
      some (some ⟨0xE8990003#32, some 0x80002003#32, none⟩, none, 1, 0xDEADBEEF#32) := by
  decide

/-- VX1. -/
theorem test_unimplemented :
    (seen (start [] 0xFFFFFFFF#32) fun t => (t.diag, t.pc, t.nextPc, t.causeWord)) =
      some (some ⟨0xFFFFFFFF#32, 0x80001000#32⟩, 0x80001004#32, 0x80001008#32, 0#32) := by
  decide

/-! ### The phases before execution -/

/-- VQ5. -/
theorem test_interrupt :
    (seen ({ start [] 0x24020001#32 with sr := 0x00000801#32, irqFeed := [0b000010#6] }) fun t =>
        (t.bus.length, entry t)) =
      some (0, 0x80001000#32, 0x00000800#32, 0x00000804#32, 0x80000080#32, 0x80000084#32) := by
  decide

/-- VQ7. -/
theorem test_interrupt_masked :
    (seen ({ start [] 0x24020001#32 with sr := 0x00000201#32, cause := ⟨false, 1#2, 0#5⟩ }) fun t =>
        (t.xpost 2, t.sr, t.causeWord)) =
      some (1#32, 0x00000201#32, 0x00000100#32) := by
  decide

/-- VQ12. -/
theorem test_fetch_misaligned :
    (seen ({ start [] 0#32 with pc := 0x80001002#32 }) fun t => (t.causeWord, t.epc, t.badVAddr, t.bus.length)) =
      some (0x00000010#32, 0x80001002#32, 0x80001002#32, 0) := by
  decide

/-- SE6, the second step, with the delay slot at 0x80001000. -/
theorem test_delaySlot_exception :
    (seen ({ start [(1, 0x7FFFFFFF#32), (2, 1#32), (3, 0xDEADBEEF#32)] 0x00221820#32 with
        sr := 0x00000405#32, branchDelayActive := true, branchTaken := true, currentPc := 0x80000FFC#32, nextPc := 0x80001040#32 }) fun t =>
        (t.xpost 3, t.jumpDest, entry t)) =
      some (0xDEADBEEF#32, 0x80001040#32, 0x80000FFC#32, 0x80000030#32, 0x00000414#32, 0x80000080#32, 0x80000084#32) := by
  decide

/-- R204 and R353, or R303 step 5 (log 23): a branch at 0x80000104, in the slot of a branch taken to 0x80001000, and SYSCALL
in its own slot. -/
theorem test_delaySlot_ofABranchInADelaySlot :
    (seen ({ start [] 0x0000000C#32 with
        branchDelayActive := true, branchTaken := true, savedBranchDelayActive := true, savedBranchTaken := true, currentPc := 0x80000104#32, nextPc := 0x80001040#32 }) fun t =>
        (t.epc, t.causeWord, t.jumpDest)) =
      some (if Config.epcIsTheBranch then 0x80000104#32 else 0x80000FFC#32, 0x80000020#32, 0x80001040#32) := by
  rfl

/-- SE5: the step after the load. -/
theorem test_loadDelay :
    (seen ({ start [(8, 0xAAAA0000#32)] 0x01004821#32 with
        pendingLoad := some ⟨8, 0xAAAA0000#32, 0x0BADF00D#32⟩ }) fun t =>
        (t.xpost 9, t.xpost 8, t.pendingLoad)) =
      some (0xAAAA0000#32, 0x0BADF00D#32, none) := by
  decide

/-- VL29: the second step. -/
theorem test_loadDelay_writeWins :
    (seen ({ start [(2, 0x1111#32)] 0x24020033#32 with pendingLoad := some ⟨2, 0x1111#32, 0x2222#32⟩ }) fun t =>
        (t.xpost 2, t.pendingLoad)) =
      some (0x33#32, none) := by
  decide

/-- SE1: the step after the load. -/
theorem test_registerZero_stagedLoad :
    (seen ({ start [] 0#32 with pendingLoad := some ⟨0, 0#32, 0x12345678#32⟩ }) fun t => (t.xpost 0, t.gpr[0])) =
      some (0#32, 0#32) := by
  decide

/-- SE12: after reset the first bus transaction is `read32(BFC00000)`. -/
theorem test_reset_firstFetch :
    (seen (State.reset.withFetchWord 32 0x2401FFF9) fun t => (t.bus, t.xpost 1, t.pc)) =
      some ([⟨.read, .word, 0xBFC00000#32, 0x2401FFF9#32⟩], 0xFFFFFFF9#32, 0xBFC00004#32) := by
  decide

/-! ### The map of the bus collaborator -/

/-- A map in which 0x80000000 to 0x9FFFFFFF and 0xA0000000 to 0xBFFFFFFF are views of the storage from 0 on, and the
addresses above have none: the conventional kseg0 and kseg1 of R72. -/
def twoViews : List BusRegion :=
  [⟨0x20000000#30, 0x8000000, some 0#30⟩, ⟨0x28000000#30, 0x8000000, some 0#30⟩, ⟨0x30000000#30, 0x10000000, none⟩]

/-- R62: the word put at 0x80001004, read through 0xA0001004. -/
theorem test_map_twoViews :
    (seen (place { start [(1, 0xA0001000#32)] 0 with busMap := twoViews }
        [(0x80001000#32, encode (.lw 2 4 1)), (0x80001004#32, 0x12345678#32)]) fun t => t.pendingLoad) =
      some (some ⟨2, 0#32, 0x12345678#32⟩) := by
  decide

/-- U6: a store where nothing is leaves the memory as it was; the operation goes out. -/
theorem test_map_noStorage :
    (seen (place { start [(1, 0xC0000000#32)] 0 with busMap := twoViews } [(0x80001000#32, encode (.sb 1 3 1))])
        fun t => (t.mem.read? 0xC0000003, t.mem.length, t.bus.length)) =
      some (none, 8, 2) := by
  decide

/-! ### The hypotheses of the obligations can be met -/

section Witnesses

/-- What `Fetches` asks, for a state whose `ext_irq` level is listed. -/
theorem fetches_of (w : Word) (s : State)
    (h : (s.sr.getLsbD 0 && (s.sr.extractLsb' 8 8 &&& (sampled s ++ s.cause.ip)) != 0#8) = false)
    (ha : s.pc.toNat % 4 = 0) (hb : ∀ j < 4, s.byteAt? (s.pc + BitVec.ofNat 32 j) = some (byteOf w j)) : Fetches w s where
  noInterrupt := fun hd => by simp [hd.1, hd.2] at h
  aligned := ha
  bytes := hb

theorem test_witness_DecodeOfEncodeIsTheInstruction :
    (Instr.jalr 31 31).wellFormed = true ∧ (Instr.unimplemented 0x9C000000#32).wellFormed = true := by decide

theorem test_witness_UnimplementedWordsAreThoseOfR102 :
    isUnimplemented 0x4C000000#32 = true ∧ isUnimplemented 0x7C000000#32 = true ∧ isUnimplemented 0x40200000#32 = true ∧
    isUnimplemented 0x43E00010#32 = true ∧ isUnimplemented 0x49E00000#32 = true ∧ isUnimplemented 0x0000003F#32 = true := by
  decide

/-- The last clause: a state that carries code 10 and an instruction that answers a next state there. -/
theorem test_witness_UnimplementedWordsAreThoseOfR102_code :
    ∃ t, exec .rfe { State.reset with cause := ⟨false, 0#2, 10#5⟩ } = .next t ∧ t.cause.excCode = 10#5 := ⟨_, rfl, rfl⟩

theorem test_witness_RegisterZeroIsHardwired :
    (31#5 : RegIdx) ≠ 0#5 ∧ (1#5 : RegIdx) ≠ 0#5 ∧
    { State.reset with pendingLoad := some ⟨0#5, 0#32, 7#32⟩ }.pendingLoad = some ⟨0#5, 0#32, 7#32⟩ := by decide

theorem test_witness_StepKeepsTheInvariant :
    (start [] 0x0C000100#32).Inv ∧ ∃ t, step (start [] 0x0C000100#32) = .next t := ⟨by decide, _, rfl⟩

theorem test_witness_StepRunsTheDecodedInstruction :
    ¬ InterruptDue (start [] 0x00221820#32) ∧ (start [] 0x00221820#32).pc.toNat % 4 = 0 ∧
    (start [] 0x00221820#32).byteAt? 0x80001000#32 = some 0x20#8 ∧
    (start [] 0x00221820#32).byteAt? (0x80001000#32 + 1#32) = some 0x18#8 ∧
    (start [] 0x00221820#32).byteAt? (0x80001000#32 + 2#32) = some 0x22#8 ∧
    (start [] 0x00221820#32).byteAt? (0x80001000#32 + 3#32) = some 0x00#8 ∧
    decode [0x20#8, 0x18#8, 0x22#8, 0x00#8] = .ok (.add 3 1 2, []) :=
  ⟨(fetches_of 0x00221820#32 _ (by decide) (by decide) (by decide)).noInterrupt, by decide, by decide, by decide, by decide,
    by decide, by decide⟩

/-- The state of `test_loadDelay`, register 31 as destination and as index. -/
theorem test_witness_LoadDelayShowsTheOldValue :
    Fetches (encode (.addu 31 8 0)) { start [] (encode (.addu 31 8 0)) with pendingLoad := some ⟨8#5, 1#32, 2#32⟩ } ∧
    Fetches (encode (.addu 8 8 0)) { start [] (encode (.addu 8 8 0)) with pendingLoad := some ⟨31#5, 1#32, 2#32⟩ } :=
  ⟨fetches_of _ _ (by decide) (by decide) (by decide), fetches_of _ _ (by decide) (by decide) (by decide)⟩

/-- Registers 8, 9, 10 at the address 0x80002000 (SE5), the three words in place. -/
theorem test_witness_LoadThenReaderTimeline :
    let s := start [(29, 0x80002000#32)] (encode (.lw 8 0 29))
      [(0x80001004#32, encode (.addu 9 8 0)), (0x80001008#32, encode (.addu 10 8 0)), (0x80002000#32, 0x0BADF00D#32)]
    s.pendingLoad = none ∧ s.iec = false ∧ s.nextPc = s.pc + 4#32 ∧ Fetches (encode (.lw 8 0 29)) s ∧
    (∀ j < 4, s.byteAt? (s.pc + 4#32 + BitVec.ofNat 32 j) = some (byteOf (encode (.addu 9 8 0)) j)) ∧
    (∀ j < 4, s.byteAt? (s.pc + 8#32 + BitVec.ofNat 32 j) = some (byteOf (encode (.addu 10 8 0)) j)) ∧
    (s.xpost 29 + sext16 0).toNat % 4 = 0 ∧
    s.byteAt? (s.xpost 29 + sext16 0) = some 0x0D#8 ∧
    s.byteAt? (s.xpost 29 + sext16 0 + 1#32) = some 0xF0#8 ∧
    s.byteAt? (s.xpost 29 + sext16 0 + 2#32) = some 0xAD#8 ∧
    s.byteAt? (s.xpost 29 + sext16 0 + 3#32) = some 0x0B#8 :=
  ⟨by decide, by decide, by decide, fetches_of _ _ (by decide) (by decide) (by decide), by decide, by decide, by decide,
    by decide, by decide, by decide, by decide⟩

/-- The last clause: a step that stages a load, and one that does not. -/
theorem test_witness_StagedLoadIsNeverCancelled_staged :
    (∃ t, step (start [] (encode (.mfc0 31 12))) = .next t ∧ t.pendingLoad = some ⟨31#5, 0#32, 0x00400000#32⟩) ∧
    ∃ t, step (start [] (encode (.sb 1 0 1))) = .next t ∧ t.pendingLoad = none := ⟨⟨_, rfl, by decide⟩, _, rfl, rfl⟩

/-- Index 31 and index 1, the second with an instruction that writes register 1 itself. -/
theorem test_witness_StagedLoadIsNeverCancelled :
    (∃ t, step { start [] 0x0000000C#32 with pendingLoad := some ⟨31#5, 0#32, 5#32⟩ } = .next t ∧
      t.xpost 31#5 = 5#32) ∧
    ∃ t, step { start [] (encode (.addiu 1 0 7)) with pendingLoad := some ⟨1#5, 0#32, 5#32⟩ } = .next t ∧
      t.xpost 1#5 = 7#32 := ⟨⟨_, rfl, by decide⟩, _, rfl, by decide⟩

/-- The lowest and the highest bit of the mask, pc aligned and not. -/
theorem test_witness_InterruptIsTakenBeforeTheFetch :
    InterruptDue { start [] 0#32 with sr := 0x00000101#32, cause := ⟨false, 1#2, 0#5⟩ } ∧
    InterruptDue { start [] 0#32 with sr := 0x00008001#32, irqFeed := [0b100000#6], pc := 0x80001002#32 } :=
  ⟨⟨by decide, by decide⟩, by decide, by decide⟩

/-- Each of the three remainders. -/
theorem test_witness_MisalignedFetchRaisesLoadAddrError :
    (¬ InterruptDue { start [] 0#32 with pc := 0x80001001#32 } ∧ (0x80001001#32).toNat % 4 ≠ 0) ∧
    (¬ InterruptDue { start [] 0#32 with pc := 0xFFFFFFFE#32 } ∧ (0xFFFFFFFE#32).toNat % 4 ≠ 0) ∧
    (¬ InterruptDue { start [] 0#32 with pc := 3#32 } ∧ (3#32).toNat % 4 ≠ 0) :=
  ⟨⟨fun hd => absurd hd.1 (by decide), by decide⟩, ⟨fun hd => absurd hd.1 (by decide), by decide⟩,
    fun hd => absurd hd.1 (by decide), by decide⟩

theorem test_witness_VectorsAreSelectedByBEV :
    (0x00400000#32).getLsbD 22 = true ∧ (0xFFBFFFFF#32).getLsbD 22 = false ∧ ExcCause.breakPoint ≠ ExcCause.syscall := by
  decide

/-- A state whose instruction stands in a delay slot, a load pending. -/
def inSlot (regs : List (RegIdx × Word)) (word : Word) : State :=
  { start regs word with branchDelayActive := true, currentPc := 0x80000FFC#32, pendingLoad := some ⟨9#5, 0#32, 7#32⟩ }

theorem fetches_inSlot (regs : List (RegIdx × Word)) (word : Word)
    (hb : ∀ j < 4, (inSlot regs word).byteAt? (0x80001000#32 + BitVec.ofNat 32 j) = some (byteOf word j)) :
    Fetches word (inSlot regs word) where
  noInterrupt := fun hd => absurd (show (0x00400000#32).getLsbD 0 = true from hd.1) (by decide)
  aligned := show (0x80001000#32).toNat % 4 = 0 by decide
  bytes := hb

/-- One state for each clause: the interrupt, the fetch, the traps, the overflows and the five misaligned accesses. -/
theorem test_witness_ExceptionInADelaySlotPointsAtTheBranch :
    InterruptDue { inSlot [] 0#32 with sr := 0x00000101#32, cause := ⟨false, 1#2, 0#5⟩ } ∧
    (¬ InterruptDue { inSlot [] 0#32 with pc := 0x80001003#32 } ∧ (0x80001003#32).toNat % 4 ≠ 0) ∧
    Fetches (encode (.syscall 0xFFFFF)) (inSlot [] (encode (.syscall 0xFFFFF))) ∧
    Fetches (encode (.brk 0xFFFFF)) (inSlot [] (encode (.brk 0xFFFFF))) :=
  ⟨⟨by decide, by decide⟩, ⟨fun hd => absurd hd.1 (by decide), by decide⟩, fetches_inSlot _ _ (by decide),
    fetches_inSlot _ _ (by decide)⟩

theorem test_witness_ExceptionInADelaySlotPointsAtTheBranch_overflow :
    (let s := inSlot [(1, 0x7FFFFFFF#32), (2, 1#32)] (encode (.add 3 1 2))
     Fetches (encode (.add 3 1 2)) s ∧ ¬ Fits ((s.xpost 1).toInt + (s.xpost 2).toInt)) ∧
    (let s := inSlot [(1, 0x80000000#32), (2, 1#32)] (encode (.sub 3 1 2))
     Fetches (encode (.sub 3 1 2)) s ∧ ¬ Fits ((s.xpost 1).toInt - (s.xpost 2).toInt)) ∧
    let s := inSlot [(1, 0x80000000#32)] (encode (.addi 3 1 0xFFFF))
    Fetches (encode (.addi 3 1 0xFFFF)) s ∧ ¬ Fits ((s.xpost 1).toInt + (0xFFFF#16).toInt) :=
  ⟨⟨fetches_inSlot _ _ (by decide), by unfold Fits; decide⟩, ⟨fetches_inSlot _ _ (by decide), by unfold Fits; decide⟩,
    fetches_inSlot _ _ (by decide), by unfold Fits; decide⟩

theorem test_witness_ExceptionInADelaySlotPointsAtTheBranch_address :
    (let s := inSlot [(1, 1#32)] (encode (.lh 3 0 1))
     Fetches (encode (.lh 3 0 1)) s ∧ (s.xpost 1 + sext16 0).toNat % 2 ≠ 0) ∧
    (let s := inSlot [(1, 2#32)] (encode (.lw 3 0 1))
     Fetches (encode (.lw 3 0 1)) s ∧ (s.xpost 1 + sext16 0).toNat % 4 ≠ 0) ∧
    (let s := inSlot [(1, 1#32)] (encode (.sh 3 0 1))
     Fetches (encode (.sh 3 0 1)) s ∧ (s.xpost 1 + sext16 0).toNat % 2 ≠ 0) ∧
    let s := inSlot [(1, 2#32)] (encode (.sw 3 0 1))
    Fetches (encode (.sw 3 0 1)) s ∧ (s.xpost 1 + sext16 0).toNat % 4 ≠ 0 :=
  ⟨⟨fetches_inSlot _ _ (by decide), by decide⟩, ⟨fetches_inSlot _ _ (by decide), by decide⟩,
    ⟨fetches_inSlot _ _ (by decide), by decide⟩, fetches_inSlot _ _ (by decide), by decide⟩

/-- The largest and smallest results that fit and the first that do not, for the sum, the difference and the immediate. -/
theorem test_witness_SignedOverflowTraps :
    let s := start [(1, 0x7FFFFFFE#32), (2, 0x80000001#32), (3, 1#32), (4, 2#32), (5, 0xFFFFFFFF#32), (6, 0xFFFFFFFE#32)] 0
    (Fits ((s.x 1).toInt + (s.x 3).toInt) ∧ ¬ Fits ((s.x 1).toInt + (s.x 4).toInt) ∧
      Fits ((s.x 2).toInt + (s.x 5).toInt) ∧ ¬ Fits ((s.x 2).toInt + (s.x 6).toInt)) ∧
    (Fits ((s.x 2).toInt - (s.x 3).toInt) ∧ ¬ Fits ((s.x 2).toInt - (s.x 4).toInt) ∧
      Fits ((s.x 1).toInt - (s.x 5).toInt) ∧ ¬ Fits ((s.x 1).toInt - (s.x 6).toInt)) ∧
    Fits ((s.x 1).toInt + (1#16).toInt) ∧ ¬ Fits ((s.x 1).toInt + (2#16).toInt) ∧
      Fits ((s.x 2).toInt + (0xFFFF#16).toInt) ∧ ¬ Fits ((s.x 2).toInt + (0xFFFE#16).toInt) := by
  unfold Fits
  decide

theorem test_witness_DivideByZeroResults :
    (start [(1, 5#32)] 0).x 2 = 0#32 ∧ ¬ ((start [(1, 5#32)] 0).x 1).toInt < 0 ∧
    (start [(1, 0xFFFFFFFF#32)] 0).x 2 = 0#32 ∧ ((start [(1, 0xFFFFFFFF#32)] 0).x 1).toInt < 0 := by decide

theorem test_witness_DivideMostNegativeByMinusOne :
    (start [(1, 0x80000000#32), (2, 0xFFFFFFFF#32)] 0).x 1 = 0x80000000#32 ∧
    (start [(1, 0x80000000#32), (2, 0xFFFFFFFF#32)] 0).x 2 = 0xFFFFFFFF#32 := by decide

/-- The two neighbours of the excluded case. -/
theorem test_witness_DivideTruncatesTowardZero :
    (let s := start [(1, 0x80000000#32), (2, 1#32)] 0
     s.x 2 ≠ 0#32 ∧ ¬ (s.x 1 = 0x80000000#32 ∧ s.x 2 = 0xFFFFFFFF#32)) ∧
    let s := start [(1, 0x80000001#32), (2, 0xFFFFFFFF#32)] 0
    s.x 2 ≠ 0#32 ∧ ¬ (s.x 1 = 0x80000000#32 ∧ s.x 2 = 0xFFFFFFFF#32) := by decide

theorem test_witness_UnsignedDivideResults :
    (start [(1, 5#32)] 0).x 2 = 0#32 ∧ (start [(2, 1#32)] 0).x 2 ≠ 0#32 := by decide

theorem test_witness_OnlyTheMultiplyUnitWritesHiLo :
    ∃ t, step (start [(1, 7#32)] (encode (.mthi 1))) = .next t ∧ (t.hi ≠ 0#32 ∨ t.lo ≠ 0#32) := ⟨_, rfl, by decide⟩

/-- What the statement asks of a state, with its branch not taken and taken. -/
theorem test_witness_DelaySlotExecutesBeforeTheTarget :
    (let s := start [] (encode (.bne 1 0 0x8000)) [(0x80001004#32, encode (.addiu 31 0 0x8000))]
     s.pendingLoad = none ∧ s.iec = false ∧ s.nextPc = s.pc + 4#32 ∧
     Fetches (encode (.bne 1 0 0x8000)) s ∧
     (∀ j < 4, s.byteAt? (s.pc + 4#32 + BitVec.ofNat 32 j) = some (byteOf (encode (.addiu 31 0 0x8000)) j)) ∧
     s.xpost 1 = s.xpost 0) ∧
    let s := start [(1, 1#32)] (encode (.bne 1 0 0x7FFF)) [(0x80001004#32, encode (.addiu 31 0 0x8000))]
    s.pendingLoad = none ∧ s.iec = false ∧ s.nextPc = s.pc + 4#32 ∧
    Fetches (encode (.bne 1 0 0x7FFF)) s ∧
    (∀ j < 4, s.byteAt? (s.pc + 4#32 + BitVec.ofNat 32 j) = some (byteOf (encode (.addiu 31 0 0x8000)) j)) ∧
    s.xpost 1 ≠ s.xpost 0 :=
  ⟨⟨rfl, by decide, rfl, fetches_of _ _ (by decide) (by decide) (by decide), by decide, by decide⟩,
    rfl, by decide, rfl, fetches_of _ _ (by decide) (by decide) (by decide), by decide, by decide⟩

/-- Aligned for 2 and not for 4, aligned for 4, the carry out of the sum. -/
theorem test_witness_EffectiveAddressIsBasePlusOffset :
    let s := start [(1, 0xFFFFFFFE#32), (2, 4#32)] 0
    (BitVec.ofInt 32 ((s.x 1).toInt + (0#16).toInt)).toNat % 2 = 0 ∧
    (BitVec.ofInt 32 ((s.x 1).toInt + (2#16).toInt)).toNat % 4 = 0 ∧
    (BitVec.ofInt 32 ((s.x 2).toInt + (0xFFFC#16).toInt)).toNat % 4 = 0 := by decide

/-- Aligned for 2 and not for 4, aligned for 4, at the top of the address space. -/
theorem test_witness_AlignedLoadsStageTheirValue :
    ((start [(1, 0xFFFFFFFE#32)] 0).effAddr 1 0).toNat % 2 = 0 ∧
    ((start [(1, 0xFFFFFFFC#32)] 0).effAddr 1 0).toNat % 4 = 0 := by decide

/-- Address 2, aligned for 2 and not for 4; address 0; the top of the address space; each with storage. -/
theorem test_witness_AlignedStoresWriteTheirBytes :
    let s := start [(1, 1#32)] 0
    (s.effAddr 1 1 = 2#32 ∧ (s.effAddr 1 1).toNat % 2 = 0 ∧ (s.effAddr 1 1).toNat % 4 = 2 ∧
      s.storageAt (s.effAddr 1 1) = some 2#32) ∧
    ((s.effAddr 1 0xFFFF).toNat % 4 = 0 ∧ s.storageAt (s.effAddr 1 0xFFFF + 3#32) = some 3#32) ∧
    (s.effAddr 1 0xFFFD).toNat % 2 = 0 ∧ (s.effAddr 1 0xFFFB).toNat % 4 = 0 := by
  decide

theorem test_witness_MisalignedAccessesAreStoppedBeforeTheBus :
    ((start [(1, 0xFFFFFFFF#32)] 0).effAddr 1 0).toNat % 2 ≠ 0 ∧ ((start [] 0).effAddr 1 1).toNat % 2 ≠ 0 ∧
    ((start [] 0).effAddr 1 1).toNat % 4 ≠ 0 ∧ ((start [] 0).effAddr 1 2).toNat % 4 ≠ 0 ∧
    ((start [] 0).effAddr 1 3).toNat % 4 ≠ 0 := by decide

/-- Each of the four alignments, for the clauses of the four unaligned instructions. -/
theorem test_witness_UnalignedMergeBytes :
    ((start [] 0).effAddr 1 0).toNat % 4 = 0 ∧ ((start [] 0).effAddr 1 1).toNat % 4 = 1 ∧
    ((start [] 0).effAddr 1 2).toNat % 4 = 2 ∧ ((start [] 0).effAddr 1 0xFFFF).toNat % 4 = 3 := by decide

/-- Word 0x80002000 and the next one listed, `A` = 0x80002001. -/
theorem test_witness_LwrThenLwlLoadsTheUnalignedWord :
    let s := start [(1, 0x80002000#32)] 0 [(0x80002000#32, 0x44332211#32), (0x80002004#32, 0x88776655#32)]
    s.x 1 = s.xpost 1 ∧ (2#5 : RegIdx) ≠ 0#5 ∧ s.effAddr 1 4 = s.effAddr 1 1 + 3#32 ∧
    s.byteAt? (s.effAddr 1 1) = some 0x22#8 ∧ s.byteAt? (s.effAddr 1 1 + 1#32) = some 0x33#8 ∧
    s.byteAt? (s.effAddr 1 1 + 2#32) = some 0x44#8 ∧ s.byteAt? (s.effAddr 1 1 + 3#32) = some 0x55#8 := by
  decide

theorem test_witness_SwrThenSwlStoresTheUnalignedWord :
    (start [] 0).effAddr 1 6 = (start [] 0).effAddr 1 3 + 3#32 ∧
    (start [] 0 [(8#32, 9#32)]).mem.read? 8 = some 9#8 ∧
    ∀ j < 4, ((start [] 0).storageAt ((start [] 0).effAddr 1 3 + BitVec.ofNat 32 j)).map BitVec.toNat ≠ some 8 := by decide

theorem test_witness_BusOperationsOfEachInstruction :
    ((start [(1, 2#32)] 0).effAddr 1 0).toNat % 2 = 0 ∧ ((start [(1, 4#32)] 0).effAddr 1 0).toNat % 4 = 0 ∧
    (∃ t, exec (.lwc2 0 0 1) (start [] 0) = .next t) ∧
    (Instr.lwc2 0 0 1).mnemonic ∉ ["LB", "LBU", "LH", "LHU", "LW", "SB", "SH", "SW", "LWL", "LWR", "SWL", "SWR"] ∧
    ∃ t, step (start [] 0x8C200000#32) = .next t ∧ t.instruction = 0x8C200000#32 :=
  ⟨by decide, by decide, ⟨_, rfl⟩, by decide, _, rfl, by decide⟩

/-- A step that issues a halfword and one that issues a word operation. -/
theorem test_witness_OnlyAlignedAccessesReachTheBus :
    (∃ t, step (start [(1, 0x80002002#32)] (encode (.sh 1 0 1))) = .next t ∧
      (⟨.write, .half, 0x80002002#32, 0x2002#32⟩ : BusOp) ∈ t.bus) ∧
    ∃ t, step (start [(1, 0x80002004#32)] (encode (.sw 1 0 1))) = .next t ∧
      (⟨.write, .word, 0x80002004#32, 0x80002004#32⟩ : BusOp) ∈ t.bus := ⟨⟨_, rfl, by decide⟩, _, rfl, by decide⟩

/-- The word at 0xA0001000, stored to through 0x80001000: each byte of it. -/
theorem test_witness_StoreIsSeenByTheNextFetch :
    let s := { start [(1, 0x80001000#32)] 0 with busMap := twoViews, pc := 0xA0001000#32 }
    s.pc.toNat % 4 = 0 ∧
    (∀ k < 4, s.storageAt (s.pc + BitVec.ofNat 32 k) = some (0x00001000#32 + BitVec.ofNat 32 k) ∧
      s.storageAt (s.effAddr 1 (BitVec.ofNat 16 k)) = some (0x00001000#32 + BitVec.ofNat 32 k)) ∧
    ∃ t, exec (.sw 2 0 1) s = .next t ∧ ¬ InterruptDue t :=
  ⟨by decide, by decide, _, rfl, fun hd => absurd hd.1 (by decide)⟩

/-- The same two views, each byte of the word. -/
theorem test_witness_ViewsOfOneStorageAreOneMemory :
    let s := { start [(1, 0x80001000#32), (2, 0xA0001000#32)] 0 with busMap := twoViews }
    (s.effAddr 1 0).toNat % 4 = 0 ∧ s.storageAt (s.effAddr 1 0) = some 0x00001000#32 ∧
    ∀ k < 4, s.storageAt (s.effAddr 2 (BitVec.ofNat 16 k)) = some (0x00001000#32 + BitVec.ofNat 32 k) := by
  decide

/-- The lowest and the highest address without storage, aligned for 4 and for 2 only; its neighbour has storage. -/
theorem test_witness_AccessesWithoutStorageCompleteAndStoreNothing :
    let s := { start [(1, 0xC0000000#32)] 0 with busMap := twoViews }
    s.storageAt (s.effAddr 1 0) = none ∧ (s.effAddr 1 0).toNat % 4 = 0 ∧
    s.storageAt (s.effAddr 0 0xFFFE) = none ∧ (s.effAddr 0 0xFFFE).toNat % 2 = 0 ∧
    s.storageAt (s.effAddr 0 0xFFFF) = none ∧ s.storageAt (s.effAddr 1 0xFFFF) ≠ none ∧
    ∃ t, step (start [] 0) = .next t := ⟨by decide, by decide, by decide, by decide, by decide, by decide, _, rfl⟩

/-- A branch whose slot executes SYSCALL; one in the slot of a branch taken to 0x80002002, whose slot faults in the fetch; one
whose slot takes an interrupt. The first starts from a state with the invariant. -/
theorem test_witness_EpcWhenABranchStoodInADelaySlotItself :
    (∃ t u, step (start [] (encode (.beq 0 0 4)) [(0x80001004#32, encode (.syscall 0))]) = .next t ∧
      t.branchDelayActive = true ∧ Fetches (encode (.syscall 0)) { t with irqFeed := [0#6] } ∧
      step { t with irqFeed := [0#6] } = .next u ∧ u.epc = 0x80001000#32) ∧
    (∃ t u, step { start [] (encode (.beq 0 0 4)) with nextPc := 0x80002002#32 } = .next t ∧
      t.branchDelayActive = true ∧ t.pc.toNat % 4 ≠ 0 ∧
      step { t with irqFeed := [0#6] } = .next u ∧ (u.epc = 0x80001000#32 ∨ u.epc = 0x80001FFE#32)) ∧
    ∃ t, step { start [] (encode (.beq 0 0 4)) with sr := 0x00000401#32, irqFeed := [0#6, 1#6] } = .next t ∧
      t.branchDelayActive = true ∧ InterruptDue t ∧
      (start [] (encode (.beq 0 0 4))).Inv ∧ (start [] (encode (.beq 0 0 4))).branchTaken = false :=
  ⟨⟨_, _, rfl, rfl, fetches_of _ _ (by decide) (by decide) (by decide), rfl, by decide⟩,
    ⟨_, _, rfl, rfl, by decide, rfl, ite_eq_or_eq (Config.epcIsTheBranch = true) _ _⟩,
    _, rfl, rfl, ⟨by decide, by decide⟩, by decide, rfl⟩

theorem test_witness_Cop0NumbersThatNameNoRegister :
    ∀ rd ∈ [0#5, 1#5, 2#5, 4#5, 10#5, 16#5, 31#5],
      rd ∉ [3#5, 5#5, 6#5, 7#5, 8#5, 9#5, 11#5, 12#5, 13#5, 14#5, 15#5] := by decide

/-- A step that writes SR by MTC0, one by RFE, one by an exception that also writes EPC and CAUSE, one that writes BPC. -/
theorem test_witness_WhoWritesTheCop0Registers :
    (∃ t, step (start [(1, 1#32)] (encode (.mtc0 1 12))) = .next t ∧ t.sr ≠ 0x00400000#32) ∧
    (∃ t, step { start [] (encode .rfe) with sr := 4#32 } = .next t ∧ t.sr ≠ 4#32) ∧
    (∃ t, step { start [] (encode (.syscall 0)) with sr := 1#32 } = .next t ∧ t.sr ≠ 1#32 ∧ t.epc ≠ 0#32 ∧
      t.cause.excCode ≠ 0#5) ∧
    ∃ t, step (start [(1, 1#32)] (encode (.mtc0 1 3))) = .next t ∧ t.bpc ≠ 0#32 :=
  ⟨⟨_, rfl, by decide⟩, ⟨_, rfl, by decide⟩, ⟨_, rfl, by decide, by decide, by decide⟩, _, rfl, by decide⟩

/-- An address error in a delay slot, which writes BadVAddr, JUMPDEST and CAUSE.BD; MTC0 to CAUSE; the other breakpoint
registers. -/
theorem test_witness_WhoWritesTheCop0Registers_more :
    (∃ t, step { start [(1, 1#32)] (encode (.lw 2 0 1)) with branchDelayActive := true } = .next t ∧
      t.badVAddr ≠ 0#32 ∧ t.jumpDest ≠ 0#32 ∧ t.cause.bd ≠ false) ∧
    (∃ t, step (start [(1, 0x300#32)] (encode (.mtc0 1 13))) = .next t ∧ t.cause.ip ≠ 0#2) ∧
    (∃ t, step (start [(1, 1#32)] (encode (.mtc0 1 5))) = .next t ∧ t.bda ≠ 0#32) ∧
    (∃ t, step (start [(1, 1#32)] (encode (.mtc0 1 7))) = .next t ∧ t.dcic ≠ 0#32) ∧
    (∃ t, step (start [(1, 1#32)] (encode (.mtc0 1 9))) = .next t ∧ t.bdam ≠ 0#32) ∧
    ∃ t, step (start [(1, 1#32)] (encode (.mtc0 1 11))) = .next t ∧ t.bpcm ≠ 0#32 :=
  ⟨⟨_, rfl, by decide, by decide, by decide⟩, ⟨_, rfl, by decide⟩, ⟨_, rfl, by decide⟩, ⟨_, rfl, by decide⟩,
    ⟨_, rfl, by decide⟩, _, rfl, by decide⟩

theorem test_witness_ModeRestrictsNothing :
    (∃ t, exec .rfe (start [] 0) = .next t) ∧ (∃ t, exec (.mfc0 1 12) (start [] 0) = .next t) ∧
    ∀ rt, Instr.rfe ≠ .mfc0 rt 12 := ⟨⟨_, rfl⟩, ⟨_, rfl⟩, nofun⟩

theorem test_witness_UnimplementedStepIsADiagnosticNop :
    isUnimplemented 0xFFFFFFFF#32 = true ∧ (start [] 0xFFFFFFFF#32).pendingLoad = none ∧
    Fetches 0xFFFFFFFF#32 (start [] 0xFFFFFFFF#32) :=
  ⟨by decide, rfl, fetches_of _ _ (by decide) (by decide) (by decide)⟩

end Witnesses

end Sys2Proof.Tests
end

section
/-! PROOF. The register file and the privilege stack (spec/10_state.md R21, R44): what a push and a pop leave in each bit of
`SR`, and the two obligations about them. -/

namespace Sys2Proof.Machine

/-! ### The privilege stack, bit by bit (R44) -/

/-- Two fields are equal when their bits are. -/
theorem extractLsb'_eq_of_getLsbD {x y : Word} {a b len : Nat}
    (h : ∀ i < len, x.getLsbD (a + i) = y.getLsbD (b + i)) : x.extractLsb' a len = y.extractLsb' b len := by
  apply BitVec.eq_of_getLsbD_eq
  intro i hi
  simpa [hi] using h i hi

/-- A push clears the two current bits, moves the four below bit 4 up by two and keeps the rest. -/
theorem getLsbD_pushPrivilege (sr : Word) (i : Nat) :
    (pushPrivilege sr).getLsbD i =
      if i < 2 then false else if i < 6 then sr.getLsbD (i - 2) else sr.getLsbD i := by
  by_cases hi : i < 32
  · interval_cases i <;> simp [pushPrivilege]
  · have hge : 32 ≤ i := Nat.le_of_not_lt hi
    rw [BitVec.getLsbD_of_ge _ _ hge, if_neg (by omega), if_neg (by omega), BitVec.getLsbD_of_ge _ _ hge]

/-- A pop moves the four bits from bit 2 down by two and keeps the rest, bits 5:4 among them. -/
theorem getLsbD_popPrivilege (sr : Word) (i : Nat) :
    (popPrivilege sr).getLsbD i = if i < 4 then sr.getLsbD (i + 2) else sr.getLsbD i := by
  by_cases hi : i < 32
  · interval_cases i <;> simp [popPrivilege]
  · have hge : 32 ≤ i := Nat.le_of_not_lt hi
    rw [BitVec.getLsbD_of_ge _ _ hge, if_neg (by omega), BitVec.getLsbD_of_ge _ _ hge]

theorem pushPrivilege_current (sr : Word) : (pushPrivilege sr).extractLsb' 0 2 = 0#2 := by
  apply BitVec.eq_of_getLsbD_eq
  intro i hi
  simp [getLsbD_pushPrivilege, hi]

/-- A field of `SR[3:0]` stands two bits higher after a push. -/
theorem pushPrivilege_stack (sr : Word) {start len : Nat} (h : start + len ≤ 4) :
    (pushPrivilege sr).extractLsb' (start + 2) len = sr.extractLsb' start len := by
  refine extractLsb'_eq_of_getLsbD fun i hi => ?_
  rw [getLsbD_pushPrivilege, if_neg (by omega), if_pos (by omega), show start + 2 + i - 2 = start + i by omega]

theorem pushPrivilege_above (sr : Word) {start len : Nat} (h : 6 ≤ start) :
    (pushPrivilege sr).extractLsb' start len = sr.extractLsb' start len := by
  refine extractLsb'_eq_of_getLsbD fun i _ => ?_
  rw [getLsbD_pushPrivilege, if_neg (by omega), if_neg (by omega)]

/-- A field of `SR[5:2]` stands two bits lower after a pop. -/
theorem popPrivilege_stack (sr : Word) {start len : Nat} (h : start + len ≤ 4) :
    (popPrivilege sr).extractLsb' start len = sr.extractLsb' (start + 2) len := by
  refine extractLsb'_eq_of_getLsbD fun i hi => ?_
  rw [getLsbD_popPrivilege, if_pos (by omega), Nat.add_right_comm]

theorem popPrivilege_above (sr : Word) {start len : Nat} (h : 4 ≤ start) :
    (popPrivilege sr).extractLsb' start len = sr.extractLsb' start len := by
  refine extractLsb'_eq_of_getLsbD fun i _ => ?_
  rw [getLsbD_popPrivilege, if_neg (by omega)]

/-! ### What the instructions answer -/

variable (s : State)

theorem exec_syscall (code : BitVec 20) : exec (.syscall code) s = .next (s.raise .syscall) := rfl

theorem exec_brk (code : BitVec 20) : exec (.brk code) s = .next (s.raise .breakPoint) := rfl

theorem exec_rfe : exec .rfe s = .next s.returnFromException := rfl

theorem exec_mtc0_sr (rt : RegIdx) : exec (.mtc0 rt 12#5) s = .next (s.writeCop0 .sr (s.x rt)) := rfl

theorem exec_jalr (rd rs : RegIdx) :
    exec (.jalr rd rs) s = .next ((s.writeGpr rd s.linkValue).branchTo true (s.x rs)) := rfl

@[simp] theorem writeCop0_sr_sr (v : Word) : (s.writeCop0 .sr v).sr = v := rfl

/-- Every exception entry pushes one level (R44, R303 step 4). -/
theorem enterException_pushes (c : ExcCause) (v n : Word) :
    (s.enterException c v n).sr.extractLsb' 4 2 = s.sr.extractLsb' 2 2 ∧
    (s.enterException c v n).sr.extractLsb' 2 2 = s.sr.extractLsb' 0 2 ∧
    (s.enterException c v n).sr.extractLsb' 0 2 = 0#2 ∧
    (s.enterException c v n).sr.extractLsb' 6 26 = s.sr.extractLsb' 6 26 :=
  ⟨pushPrivilege_stack s.sr (by decide), pushPrivilege_stack s.sr (by decide), pushPrivilege_current s.sr,
    pushPrivilege_above s.sr (by decide)⟩

/-- `RFE` pops one level (R44, R256). -/
theorem returnFromException_pops :
    s.returnFromException.sr.extractLsb' 0 2 = s.sr.extractLsb' 2 2 ∧
    s.returnFromException.sr.extractLsb' 2 2 = s.sr.extractLsb' 4 2 ∧
    s.returnFromException.sr.extractLsb' 4 2 = s.sr.extractLsb' 4 2 ∧
    s.returnFromException.sr.extractLsb' 6 26 = s.sr.extractLsb' 6 26 :=
  ⟨popPrivilege_stack s.sr (by decide), popPrivilege_stack s.sr (by decide), popPrivilege_above s.sr (by decide),
    popPrivilege_above s.sr (by decide)⟩

/-! ### Register 0 and the others (R21) -/

/-- A register after a write to one that is not register 0. -/
theorem xpost_writeGpr_of_ne_zero {i : RegIdx} (hi : i ≠ 0#5) (j : RegIdx) (v : Word) :
    (s.writeGpr i v).xpost j = if j = i then v else s.xpost j := by
  rw [xpost_writeGpr]
  by_cases hj : j = i
  · subst hj
    simp [hi]
  · simp [hj]

/-- A pending load for register 0 commits to nothing (R21, R125). -/
theorem phase2_gpr_of_pendingLoad_zero {p : PendingLoad} (hp : s.pendingLoad = some p) (hi : p.index = 0#5) :
    s.phase2.gpr = s.gpr := by
  rw [phase2_gpr, hp]
  simp only [hi, writeGpr_zero]

end Sys2Proof.Machine

namespace Sys2Proof.Claims

open Sys2Proof.Machine

/-- Settles O7: reads of register 0 by their definition, writes by `writeGpr`, which the commit and the link both use. -/
theorem registerZeroIsHardwired : Obligations.RegisterZeroIsHardwired := by
  refine ⟨fun s => ⟨x_zero s, xpost_zero s⟩, writeGpr_zero,
    fun s i j v hi => xpost_writeGpr_of_ne_zero s hi j v,
    fun s old new hp => phase2_gpr_of_pendingLoad_zero s hp rfl,
    fun s rs => ⟨_, exec_jalr s 0#5 rs, ?_⟩⟩
  rw [branchTo_gpr, writeGpr_zero]

/-- Settles O20: SYSCALL and BREAK enter an exception, which pushes; RFE pops; MTC0 writes all of `SR`. -/
theorem privilegeStackPushesAndPops : Obligations.PrivilegeStackPushesAndPops := by
  refine ⟨fun i s hi => ?_, fun c v n s => enterException_pushes s c v n,
    fun s => ⟨_, exec_rfe s, returnFromException_pops s⟩,
    fun rt s => ⟨_, exec_mtc0_sr s rt, by rw [writeCop0_sr_sr]⟩⟩
  obtain ⟨code, rfl | rfl⟩ := hi
  · exact ⟨_, exec_syscall s code, enterException_pushes s .syscall s.currentPc s.pc⟩
  · exact ⟨_, exec_brk s code, enterException_pushes s .breakPoint s.currentPc s.pc⟩

end Sys2Proof.Claims
end

section
/-! PROOF. Loads, stores and the bus (spec/20_memory.md R66, R68): what each load and store answers, when an address
error stops it, the bus operations it issues, and the two obligations about them. -/

namespace Sys2Proof.Machine

/-! ### Exception entry in the terms of the claims (R303) -/

/-- The 32-bit view of `CAUSE` bit by bit: ExcCode, the software bits, the lines, BD, and 0 elsewhere (R45, R46). -/
theorem getLsbD_causeWord (s : State) {i : Nat} (hi : i < 32) :
    s.causeWord.getLsbD i =
      if i < 2 then false else if i < 7 then s.cause.excCode.getLsbD (i - 2) else if i < 8 then false
      else if i < 10 then s.cause.ip.getLsbD (i - 8) else if i < 16 then s.extIrq.getLsbD (i - 10)
      else if i < 31 then false else s.cause.bd := by
  simp only [State.causeWord, BitVec.getLsbD_append]
  interval_cases i <;> simp

/-- An entry sets BD and the code and keeps the lines and the software bits (R45, R303). -/
theorem causeWord_enterException (s : State) (c : ExcCause) (v n : Word) :
    (s.enterException c v n).causeWord =
      (if s.savedBranchDelayActive then 0x80000000#32 else 0#32) ||| (s.causeWord &&& 0x0000FF00#32) |||
        (c.code.setWidth 32 <<< 2) := by
  apply BitVec.eq_of_getLsbD_eq
  intro i hi
  rw [BitVec.getLsbD_or, BitVec.getLsbD_or, BitVec.getLsbD_and, getLsbD_causeWord _ hi, getLsbD_causeWord _ hi]
  cases hb : s.savedBranchDelayActive <;> interval_cases i <;> simp [hb]

theorem vector_of_ne_breakPoint {c : ExcCause} (hc : c ≠ .breakPoint) (bev : Bool) :
    c.vector bev = if bev then 0xBFC00180#32 else 0x80000080#32 := by
  cases c
  case breakPoint => exact absurd rfl hc
  all_goals rfl

/-- Exception entry is what the claims say of it, `BadVAddr` left at any value (R42, R303). -/
theorem enters_enterException (s : State) (c : ExcCause) (victim successor bad : Word) :
    Claims.Enters c.code (c.vector false) (c.vector true) victim successor bad s
      { s.enterException c victim successor with badVAddr := bad } where
  epc := by simp only [enterException_epc, slotEpc_eq]
  slotFollows hs hv := by
    simpa only [enterException_epc, if_pos hs] using slotEpc_of_follows s victim hv
  cause := causeWord_enterException s c victim successor
  srOld := pushPrivilege_stack s.sr (by decide)
  srPrevious := pushPrivilege_stack s.sr (by decide)
  srCurrent := pushPrivilege_current s.sr
  srRest := pushPrivilege_above s.sr (by decide)
  jumpDest := rfl
  pc := by cases h : s.bev <;> simp [h]
  nextPc := rfl
  bad := rfl
  registers _ := rfl
  memory _ := rfl
  rest := rfl

/-- An address error of a load or store raises its code at the general vector, with the address in `BadVAddr` (R223). -/
theorem raises_raiseAddrError (s : State) {c : ExcCause} (hc : c ≠ .breakPoint) (a : Word) :
    Claims.Raises c.code a s (s.raiseAddrError c a) := by
  have h := enters_enterException s c s.currentPc s.pc a
  rwa [vector_of_ne_breakPoint hc, vector_of_ne_breakPoint hc] at h

theorem raises_loadAddrError (s : State) (a : Word) : Claims.Raises 4#5 a s (s.raiseAddrError .loadAddrError a) :=
  raises_raiseAddrError s (c := .loadAddrError) nofun a

theorem raises_writeAddrError (s : State) (a : Word) : Claims.Raises 5#5 a s (s.raiseAddrError .writeAddrError a) :=
  raises_raiseAddrError s (c := .writeAddrError) nofun a

/-! ### What each load and store answers (R224 to R231, R242 to R245, R276, R277) -/

section
variable (rt : RegIdx) (o : Half) (base : RegIdx) (s : State)

theorem exec_lb : exec (.lb rt o base) s = .next (s.loadByte sext8 rt (s.effAddr base o)) := rfl
theorem exec_lbu : exec (.lbu rt o base) s = .next (s.loadByte zext8 rt (s.effAddr base o)) := rfl
theorem exec_lh : exec (.lh rt o base) s = .next (s.loadHalf sext16 rt (s.effAddr base o)) := rfl
theorem exec_lhu : exec (.lhu rt o base) s = .next (s.loadHalf zext16 rt (s.effAddr base o)) := rfl
theorem exec_lw : exec (.lw rt o base) s = .next (s.loadWord rt (s.effAddr base o)) := rfl
theorem exec_sb : exec (.sb rt o base) s = .next (s.write8 (s.effAddr base o) ((s.x rt).extractLsb' 0 8)) := rfl
theorem exec_sh : exec (.sh rt o base) s = .next (s.storeHalf (s.effAddr base o) (s.x rt)) := rfl
theorem exec_sw : exec (.sw rt o base) s = .next (s.storeWord (s.effAddr base o) (s.x rt)) := rfl
theorem exec_lwl : exec (.lwl rt o base) s = .next (s.loadMerged mergeLwl rt (s.effAddr base o)) := rfl
theorem exec_lwr : exec (.lwr rt o base) s = .next (s.loadMerged mergeLwr rt (s.effAddr base o)) := rfl
theorem exec_swl : exec (.swl rt o base) s = .next (s.storeMerged mergeSwl rt (s.effAddr base o)) := rfl
theorem exec_swr : exec (.swr rt o base) s = .next (s.storeMerged mergeSwr rt (s.effAddr base o)) := rfl
theorem exec_lwc2 : exec (.lwc2 rt o base) s = .next (s.presentCop2 (some (s.effAddr base o)) none) := rfl
theorem exec_swc2 : exec (.swc2 rt o base) s = .next (s.presentCop2 (some (s.effAddr base o)) none) := rfl

end

/-! ### Aligned and misaligned (R66, R223) -/

section
variable (s : State) {a : Word}

theorem loadHalf_of_odd (ext : Half → Word) (rt : RegIdx) (ha : a.toNat % 2 ≠ 0) :
    s.loadHalf ext rt a = s.raiseAddrError .loadAddrError a :=
  if_pos ((halfMisaligned_iff a).2 (by omega))

theorem loadHalf_of_even (ext : Half → Word) (rt : RegIdx) (ha : a.toNat % 2 = 0) :
    s.loadHalf ext rt a = (s.read16 a).stageLoad rt (ext (s.halfAt a)) :=
  if_neg fun h => by have := (halfMisaligned_iff a).1 h; omega

theorem storeHalf_of_odd (v : Word) (ha : a.toNat % 2 ≠ 0) :
    s.storeHalf a v = s.raiseAddrError .writeAddrError a :=
  if_pos ((halfMisaligned_iff a).2 (by omega))

theorem storeHalf_of_even (v : Word) (ha : a.toNat % 2 = 0) : s.storeHalf a v = s.write16 a (v.extractLsb' 0 16) :=
  if_neg fun h => by have := (halfMisaligned_iff a).1 h; omega

theorem loadWord_of_misaligned (rt : RegIdx) (ha : a.toNat % 4 ≠ 0) :
    s.loadWord rt a = s.raiseAddrError .loadAddrError a :=
  if_pos ((wordMisaligned_iff a).2 ha)

theorem loadWord_of_aligned (rt : RegIdx) (ha : a.toNat % 4 = 0) :
    s.loadWord rt a = (s.read32 a).stageLoad rt (s.wordAt a) :=
  if_neg fun h => (wordMisaligned_iff a).1 h ha

theorem storeWord_of_misaligned (v : Word) (ha : a.toNat % 4 ≠ 0) :
    s.storeWord a v = s.raiseAddrError .writeAddrError a :=
  if_pos ((wordMisaligned_iff a).2 ha)

theorem storeWord_of_aligned (v : Word) (ha : a.toNat % 4 = 0) : s.storeWord a v = s.write32 a v :=
  if_neg fun h => (wordMisaligned_iff a).1 h ha

end

/-! ### The bus operations of each shared operation (R68) -/

section
variable (s : State) (rt : RegIdx) (a v : Word)

theorem zext8_extractLsb' : zext8 (v.extractLsb' 0 8) = BitVec.ofNat 32 (v.toNat % 2 ^ 8) := by
  simp [zext8, BitVec.toNat_eq]

theorem zext16_extractLsb' : zext16 (v.extractLsb' 0 16) = BitVec.ofNat 32 (v.toNat % 2 ^ 16) := by
  simp [zext16, BitVec.toNat_eq]

theorem loadByte_bus (ext : Byte → Word) :
    (s.loadByte ext rt a).bus = s.bus ++ [⟨.read, .byte, a, zext8 (s.busByte a)⟩] := rfl

theorem loadHalf_bus (ext : Half → Word) (ha : a.toNat % 2 = 0) :
    (s.loadHalf ext rt a).bus = s.bus ++ [⟨.read, .half, a, zext16 (s.halfAt a)⟩] := by
  rw [loadHalf_of_even s ext rt ha]
  rfl

theorem loadWord_bus (ha : a.toNat % 4 = 0) :
    (s.loadWord rt a).bus = s.bus ++ [⟨.read, .word, a, s.wordAt a⟩] := by
  rw [loadWord_of_aligned s rt ha]
  rfl

theorem write8_bus (b : Byte) : (s.write8 a b).bus = s.bus ++ [⟨.write, .byte, a, zext8 b⟩] := rfl

theorem storeHalf_bus (ha : a.toNat % 2 = 0) :
    (s.storeHalf a v).bus = s.bus ++ [⟨.write, .half, a, BitVec.ofNat 32 (v.toNat % 2 ^ 16)⟩] := by
  rw [storeHalf_of_even s v ha, ← zext16_extractLsb']
  rfl

theorem storeWord_bus (ha : a.toNat % 4 = 0) : (s.storeWord a v).bus = s.bus ++ [⟨.write, .word, a, v⟩] := by
  rw [storeWord_of_aligned s v ha]
  rfl

theorem loadMerged_bus (merge : BitVec 2 → Word → Word → Word) :
    (s.loadMerged merge rt a).bus = s.bus ++ [⟨.read, .word, a &&& ~~~3#32, s.wordAt (wordAligned a)⟩] := rfl

theorem storeMerged_bus (merge : BitVec 2 → Word → Word → Word) :
    (s.storeMerged merge rt a).bus =
      s.bus ++ [⟨.read, .word, a &&& ~~~3#32, s.wordAt (wordAligned a)⟩,
        ⟨.write, .word, a &&& ~~~3#32, merge (byteInWord a) (s.wordAt (wordAligned a)) (s.x rt)⟩] :=
  List.append_assoc s.bus [_] [_]

@[simp] theorem writeCop0_bus (r : Cop0Reg) : (s.writeCop0 r v).bus = s.bus := by cases r <;> rfl

@[simp] theorem writeCop0_instruction (r : Cop0Reg) : (s.writeCop0 r v).instruction = s.instruction := by
  cases r <;> rfl

end

/-! ### The bus record over an instruction and over a step (R68, R70) -/

/-- The instructions R68 gives a bus operation, by name. -/
def busMnemonics : List String := ["LB", "LBU", "LH", "LHU", "LW", "SB", "SH", "SW", "LWL", "LWR", "SWL", "SWR"]

/-- An instruction R68 does not name leaves the bus record as it is. -/
theorem exec_keeps_bus (i : Instr) (s : State) (hi : i.mnemonic ∉ busMnemonics) :
    ∃ t, exec i s = .next t ∧ t.bus = s.bus := by
  cases i
  case lb | lbu | lh | lhu | lw | sb | sh | sw | lwl | lwr | swl | swr =>
    exact absurd (by simp [Instr.mnemonic, busMnemonics]) hi
  case add rd rs rt =>
    simp only [exec, execAdd]
    split <;> exact ⟨_, rfl, rfl⟩
  case sub rd rs rt =>
    simp only [exec, execSub]
    split <;> exact ⟨_, rfl, rfl⟩
  case addi rt rs imm =>
    simp only [exec, execAddi]
    split <;> exact ⟨_, rfl, rfl⟩
  case mfc0 rt rd =>
    simp only [exec, execMfc0]
    split <;> exact ⟨_, rfl, rfl⟩
  case mtc0 rt rd =>
    simp only [exec, execMtc0]
    split
    · exact ⟨_, rfl, writeCop0_bus s _ _⟩
    · exact ⟨_, rfl, rfl⟩
  all_goals exact ⟨_, rfl, rfl⟩

/-- No instruction drops or reorders what the step has issued before it: it appends (R70). -/
theorem Effect.bus_prefix {i : Instr} {s t : State} (h : Effect i s t) : s.bus <+: t.bus := by
  cases h
  case loadByte | loadHalf | loadWord | loadMerged | storeByte | storeHalf | storeWord => exact List.prefix_append _ _
  case storeMerged merge rt a =>
    rw [storeMerged_bus]
    exact List.prefix_append _ _
  case writeCop0 rt rd r _ _ => exact writeCop0_bus s (s.x rt) r ▸ List.prefix_rfl
  all_goals exact List.prefix_rfl

/-- No instruction writes the instruction register (R26). -/
theorem Effect.instruction_eq {i : Instr} {s t : State} (h : Effect i s t) : t.instruction = s.instruction := by
  cases h
  case writeCop0 => exact writeCop0_instruction s _ _
  all_goals rfl

/-- The interrupt test of a step is the condition of R311 on the state it starts from. -/
theorem interruptTaken_beginStep_iff (s : State) : s.beginStep.interruptTaken = true ↔ Claims.InterruptDue s := by
  rw [State.interruptTaken, Bool.and_eq_true, bne_iff_ne]
  exact Iff.rfl

/-- With no interrupt due and `pc` aligned a step fetches and executes (R64, R120). -/
theorem step_of_fetches {s : State} (hirq : ¬ Claims.InterruptDue s) (hpc : s.pc.toNat % 4 = 0) :
    step s = exec (decodeWord s.fetched.instruction) s.fetched := by
  obtain ⟨hi, -⟩ | ⟨-, hm, -⟩ | ⟨-, -, h⟩ := step_cases s
  · exact absurd ((interruptTaken_beginStep_iff s).1 hi) hirq
  · exact absurd hpc ((wordMisaligned_iff s.pc).1 hm)
  · exact h

/-- The fetch is the first bus operation of its step. -/
theorem fetched_bus (s : State) : s.fetched.bus = [⟨.read, .word, s.pc, s.fetched.instruction⟩] := rfl

/-- A step that fetches issues the fetch first, then what its instruction issues (R64, R68). -/
theorem step_bus_of_fetches {s t : State} (hirq : ¬ Claims.InterruptDue s) (hpc : s.pc.toNat % 4 = 0)
    (h : step s = .next t) : ∃ ops, t.bus = ⟨.read, .word, s.pc, t.instruction⟩ :: ops := by
  have he := effect_of_exec ((step_of_fetches hirq hpc).symm.trans h)
  obtain ⟨ops, hops⟩ := he.bus_prefix
  exact ⟨ops, by rw [← hops, fetched_bus, he.instruction_eq, List.singleton_append]⟩

/-! ### Instructions that raise nothing -/

/-- The program counters and what exception entry writes are as before: nothing was raised and no branch was latched. -/
abbrev RaisesNothing (s t : State) : Prop :=
  t.pc = s.pc ∧ t.nextPc = s.nextPc ∧ t.epc = s.epc ∧ t.cause = s.cause ∧ t.sr = s.sr ∧ t.badVAddr = s.badVAddr

section
variable (s : State) (rt : RegIdx) (a : Word)

theorem loadByte_raisesNothing (ext : Byte → Word) : RaisesNothing s (s.loadByte ext rt a) :=
  ⟨rfl, rfl, rfl, rfl, rfl, rfl⟩

theorem write8_raisesNothing (b : Byte) : RaisesNothing s (s.write8 a b) := ⟨rfl, rfl, rfl, rfl, rfl, rfl⟩

theorem loadMerged_raisesNothing (merge : BitVec 2 → Word → Word → Word) :
    RaisesNothing s (s.loadMerged merge rt a) := ⟨rfl, rfl, rfl, rfl, rfl, rfl⟩

theorem storeMerged_raisesNothing (merge : BitVec 2 → Word → Word → Word) :
    RaisesNothing s (s.storeMerged merge rt a) := ⟨rfl, rfl, rfl, rfl, rfl, rfl⟩

theorem presentCop2_raisesNothing (addr value : Option Word) : RaisesNothing s (s.presentCop2 addr value) :=
  ⟨rfl, rfl, rfl, rfl, rfl, rfl⟩

end

end Sys2Proof.Machine

namespace Sys2Proof.Claims

open Sys2Proof.Machine

/-! ### O41 -/

/-- The halfword accesses at an odd address (R66, R223). -/
theorem halfAccesses_raise_of_odd (rt base : RegIdx) (o : Half) (s : State) (ha : (s.effAddr base o).toNat % 2 ≠ 0) :
    (∃ t, exec (.lh rt o base) s = .next t ∧ Raises 4#5 (s.effAddr base o) s t) ∧
    (∃ t, exec (.lhu rt o base) s = .next t ∧ Raises 4#5 (s.effAddr base o) s t) ∧
    (∃ t, exec (.sh rt o base) s = .next t ∧ Raises 5#5 (s.effAddr base o) s t) := by
  rw [exec_lh, exec_lhu, exec_sh, loadHalf_of_odd s _ _ ha, loadHalf_of_odd s _ _ ha, storeHalf_of_odd s _ ha]
  exact ⟨⟨_, rfl, raises_loadAddrError s _⟩, ⟨_, rfl, raises_loadAddrError s _⟩, ⟨_, rfl, raises_writeAddrError s _⟩⟩

/-- The word accesses at an address that is no multiple of 4 (R66, R223). -/
theorem wordAccesses_raise_of_misaligned (rt base : RegIdx) (o : Half) (s : State)
    (ha : (s.effAddr base o).toNat % 4 ≠ 0) :
    (∃ t, exec (.lw rt o base) s = .next t ∧ Raises 4#5 (s.effAddr base o) s t) ∧
    (∃ t, exec (.sw rt o base) s = .next t ∧ Raises 5#5 (s.effAddr base o) s t) := by
  rw [exec_lw, exec_sw, loadWord_of_misaligned s _ ha, storeWord_of_misaligned s _ ha]
  exact ⟨⟨_, rfl, raises_loadAddrError s _⟩, ⟨_, rfl, raises_writeAddrError s _⟩⟩

/-- The accesses that have no alignment check (R66). -/
theorem uncheckedAccesses_raiseNothing (rt base : RegIdx) (o : Half) (s : State) :
    ∀ i ∈ [Instr.lb rt o base, .lbu rt o base, .sb rt o base, .lwl rt o base, .lwr rt o base, .swl rt o base,
      .swr rt o base, .lwc2 rt o base, .swc2 rt o base], ∃ t, exec i s = .next t ∧ RaisesNothing s t := by
  simp only [List.forall_mem_cons, List.not_mem_nil, false_imp_iff, implies_true, and_true]
  exact ⟨⟨_, exec_lb rt o base s, loadByte_raisesNothing s _ _ _⟩,
    ⟨_, exec_lbu rt o base s, loadByte_raisesNothing s _ _ _⟩,
    ⟨_, exec_sb rt o base s, write8_raisesNothing s _ _⟩,
    ⟨_, exec_lwl rt o base s, loadMerged_raisesNothing s _ _ _⟩,
    ⟨_, exec_lwr rt o base s, loadMerged_raisesNothing s _ _ _⟩,
    ⟨_, exec_swl rt o base s, storeMerged_raisesNothing s _ _ _⟩,
    ⟨_, exec_swr rt o base s, storeMerged_raisesNothing s _ _ _⟩,
    ⟨_, exec_lwc2 rt o base s, presentCop2_raisesNothing s _ _⟩,
    ⟨_, exec_swc2 rt o base s, presentCop2_raisesNothing s _ _⟩⟩

/-- LWL, LWR, SWL and SWR put the aligned word's address on the bus, never their own (R240). -/
theorem mergedAccesses_use_alignedWord (rt base : RegIdx) (o : Half) (s : State) :
    ∀ i ∈ [Instr.lwl rt o base, .lwr rt o base, .swl rt o base, .swr rt o base],
      ∃ t ops, exec i s = .next t ∧ t.bus = s.bus ++ ops ∧
        ∀ op ∈ ops, op.width = .word ∧ op.addr = s.effAddr base o &&& ~~~3#32 := by
  simp only [List.forall_mem_cons, List.not_mem_nil, false_imp_iff, implies_true, and_true]
  exact ⟨⟨_, _, exec_lwl rt o base s, loadMerged_bus s _ _ _, by simp⟩,
    ⟨_, _, exec_lwr rt o base s, loadMerged_bus s _ _ _, by simp⟩,
    ⟨_, _, exec_swl rt o base s, storeMerged_bus s _ _ _, by simp⟩,
    ⟨_, _, exec_swr rt o base s, storeMerged_bus s _ _ _, by simp⟩⟩

/-- Settles O41: the alignment test comes before the bus operation and enters the exception; the other accesses have no
test. -/
theorem misalignedAccessesAreStoppedBeforeTheBus : Obligations.MisalignedAccessesAreStoppedBeforeTheBus := by
  refine ⟨halfAccesses_raise_of_odd, wordAccesses_raise_of_misaligned,
    fun rt base o i s hi => uncheckedAccesses_raiseNothing rt base o s i hi,
    fun rt base o i s hi => mergedAccesses_use_alignedWord rt base o s i hi, fun rt base o i s hi => ?_⟩
  simp only [List.mem_cons, List.not_mem_nil, or_false] at hi
  obtain rfl | rfl := hi
  · exact ⟨_, exec_lwc2 rt o base s, presentCop2_bus s _ _⟩
  · exact ⟨_, exec_swc2 rt o base s, presentCop2_bus s _ _⟩

/-! ### O46 -/

/-- Settles O46: each load and store by the bus record of its operation, the other instructions one by one, the fetch by
the inversion of a step. -/
theorem busOperationsOfEachInstruction : Obligations.BusOperationsOfEachInstruction := by
  refine ⟨fun rt base o s => ?_, fun i s t h hi => ?_, fun s t hirq hpc h => ?_⟩
  · simp only [List.forall_mem_cons, List.not_mem_nil, false_imp_iff, implies_true, and_true]
    refine ⟨⟨?_, ?_⟩, fun ha => ⟨?_, ?_⟩, fun ha => ?_, ?_, fun ha => ?_, fun ha => ?_, ⟨?_, ?_⟩, ?_, ?_⟩
    · exact ⟨_, _, exec_lb rt o base s, loadByte_bus s _ _ _⟩
    · exact ⟨_, _, exec_lbu rt o base s, loadByte_bus s _ _ _⟩
    · exact ⟨_, _, exec_lh rt o base s, loadHalf_bus s _ _ _ ha⟩
    · exact ⟨_, _, exec_lhu rt o base s, loadHalf_bus s _ _ _ ha⟩
    · exact ⟨_, _, exec_lw rt o base s, loadWord_bus s _ _ ha⟩
    · exact ⟨_, exec_sb rt o base s, by rw [write8_bus, zext8_extractLsb']⟩
    · exact ⟨_, exec_sh rt o base s, storeHalf_bus s _ _ ha⟩
    · exact ⟨_, exec_sw rt o base s, storeWord_bus s _ _ ha⟩
    · exact ⟨_, _, exec_lwl rt o base s, loadMerged_bus s _ _ _⟩
    · exact ⟨_, _, exec_lwr rt o base s, loadMerged_bus s _ _ _⟩
    · exact ⟨_, _, _, exec_swl rt o base s, storeMerged_bus s _ _ _⟩
    · exact ⟨_, _, _, exec_swr rt o base s, storeMerged_bus s _ _ _⟩
  · obtain ⟨u, hu, hb⟩ := exec_keeps_bus i s hi
    rw [h] at hu
    cases hu
    exact hb
  · obtain ⟨ops, hops⟩ := step_bus_of_fetches hirq hpc h
    exact ⟨_, ops, hops, rfl⟩

end Sys2Proof.Claims
end

section
/-! PROOF. The unimplemented encodings (spec/30_encoding.md R94 to R102): which words each level of the decoder reads as
UNIMPLEMENTED, which codes an instruction can set in `CAUSE`, and the obligation about them. -/

namespace Sys2Proof

/-! ### The word of UNIMPLEMENTED -/

/-- The word an UNIMPLEMENTED instruction keeps; `none` for the 68 instructions of R100. -/
def Instr.unimplementedWord? : Instr → Option Word
  | .unimplemented w => some w
  | _ => none

theorem Instr.unimplementedWord?_eq_some_iff (i : Instr) (v : Word) :
    i.unimplementedWord? = some v ↔ i = .unimplemented v := by
  cases i <;> simp [unimplementedWord?]

/-- Well-formedness asks something of UNIMPLEMENTED only. -/
theorem Instr.wellFormed_iff (i : Instr) :
    i.wellFormed = true ↔ ∀ v, i = .unimplemented v → isUnimplemented v = true := by
  cases i <;> simp [wellFormed]

/-! ### The lists of R102 are the complements of the tables of R95 and R96 -/

/-- The values of `op` that R95 gives a row or a further level. -/
def implementedOps : List (BitVec 6) :=
  [0x00, 0x01, 0x02, 0x03, 0x04, 0x05, 0x06, 0x07, 0x08, 0x09, 0x0A, 0x0B, 0x0C, 0x0D, 0x0E, 0x0F, 0x10, 0x12,
    0x20, 0x21, 0x22, 0x23, 0x24, 0x25, 0x26, 0x28, 0x29, 0x2A, 0x2B, 0x2E, 0x32, 0x3A]

/-- The values of `funct` that R96 gives a row. -/
def implementedFuncts : List (BitVec 6) :=
  [0x00, 0x02, 0x03, 0x04, 0x06, 0x07, 0x08, 0x09, 0x0C, 0x0D, 0x10, 0x11, 0x12, 0x13, 0x18, 0x19, 0x1A, 0x1B,
    0x20, 0x21, 0x22, 0x23, 0x24, 0x25, 0x26, 0x27, 0x2A, 0x2B]

theorem unimplementedOp_iff (op : BitVec 6) : unimplementedOp op = true ↔ op ∉ implementedOps := by
  revert op
  decide

theorem unimplementedFunct_iff (funct : BitVec 6) : unimplementedFunct funct = true ↔ funct ∉ implementedFuncts := by
  revert funct
  decide

/-- Under `op` = 0x10 the rows are `rs` = 0, `rs` = 4, and `rs` = 0x10 with `funct` = 0x10 (R98). -/
theorem unimplementedCop0_iff (rs : BitVec 5) (funct : BitVec 6) :
    unimplementedCop0 rs funct = true ↔ rs ≠ 0x00 ∧ rs ≠ 0x04 ∧ ¬ (rs = 0x10 ∧ funct = 0x10) := by
  by_cases hf : funct = 0x10
  · subst hf
    revert rs
    decide
  · simp only [unimplementedCop0, bne_iff_ne.2 hf, hf, and_false, Bool.and_true]
    revert rs
    decide

/-- Under `op` = 0x12 the rows are bit 4 of `rs` set, and `rs` = 0, 2, 4, 6 (R99). -/
theorem unimplementedCop2_iff (rs : BitVec 5) :
    unimplementedCop2 rs = true ↔ rs.getLsbD 4 = false ∧ rs ≠ 0x00 ∧ rs ≠ 0x02 ∧ rs ≠ 0x04 ∧ rs ≠ 0x06 := by
  revert rs
  decide

/-- The list of R102, by the fields the decoder reads. -/
theorem isUnimplemented_eq (w : Word) :
    isUnimplemented w =
      (unimplementedOp (opOf w) || (opOf w == 0x00#6 && unimplementedFunct (functOf w)) ||
        (opOf w == 0x10#6 && unimplementedCop0 (rsOf w) (functOf w)) ||
        (opOf w == 0x12#6 && unimplementedCop2 (rsOf w))) := rfl

/-! ### The three levels (R94): UNIMPLEMENTED where R102 lists the fields -/

section
variable (w : Word)

/-- `op` = 0 (R96). -/
theorem decodeSpecial_unimplementedWord? :
    (decodeSpecial w).unimplementedWord? = if unimplementedFunct (functOf w) then some w else none := by
  unfold decodeSpecial
  split
  case h_29 =>
    have hf : unimplementedFunct (functOf w) = true := by
      rw [unimplementedFunct_iff]
      simp_all [implementedFuncts]
    rw [hf]
    rfl
  all_goals
    rename_i hf
    rw [hf]
    rfl

/-- `op` = 1 (R97): every `rt` has a row. -/
theorem decodeBcondZ_unimplementedWord? : (decodeBcondZ w).unimplementedWord? = none := by
  simp only [decodeBcondZ, apply_ite Instr.unimplementedWord?]
  simp only [Instr.unimplementedWord?, ite_self]

/-- `op` = 0x10 (R98). -/
theorem decodeCop0_unimplementedWord? :
    (decodeCop0 w).unimplementedWord? = if unimplementedCop0 (rsOf w) (functOf w) then some w else none := by
  simp only [unimplementedCop0_iff, decodeCop0]
  split
  case h_1 hr | h_2 hr => simp [hr, Instr.unimplementedWord?]
  case h_3 hr =>
    by_cases hf : functOf w = 0x10#6 <;> simp [hr, hf, Instr.unimplementedWord?]
  case h_4 h0 h4 h10 => simp_all [Instr.unimplementedWord?]

/-- `op` = 0x12 (R99). -/
theorem decodeCop2_unimplementedWord? :
    (decodeCop2 w).unimplementedWord? = if unimplementedCop2 (rsOf w) then some w else none := by
  simp only [unimplementedCop2_iff, decodeCop2]
  split
  case isTrue h4 => simp [h4, Instr.unimplementedWord?]
  case isFalse h4 =>
    split
    case h_5 => simp_all [Instr.unimplementedWord?]
    all_goals
      rename_i hr
      simp [hr, Instr.unimplementedWord?]

/-- All words (R95, R102). -/
theorem decodeWord_unimplementedWord? :
    (decodeWord w).unimplementedWord? = if isUnimplemented w then some w else none := by
  rw [isUnimplemented_eq]
  unfold decodeWord
  split
  case h_1 hop =>
    rw [hop, decodeSpecial_unimplementedWord?]
    simp [unimplementedOp]
  case h_2 hop =>
    rw [hop, decodeBcondZ_unimplementedWord?]
    rfl
  case h_17 hop =>
    rw [hop, decodeCop0_unimplementedWord?]
    simp [unimplementedOp]
  case h_18 hop =>
    rw [hop, decodeCop2_unimplementedWord?]
    simp [unimplementedOp]
  case h_33 =>
    have hop : unimplementedOp (opOf w) = true := by
      rw [unimplementedOp_iff]
      simp_all [implementedOps]
    rw [hop]
    rfl
  all_goals
    rename_i hop
    rw [hop]
    rfl

/-- UNIMPLEMENTED is decoded from the words R102 lists, and keeps the word (R102, R280). -/
theorem decodeWord_eq_unimplemented_iff (v : Word) :
    decodeWord w = .unimplemented v ↔ isUnimplemented w = true ∧ w = v := by
  simp [← Instr.unimplementedWord?_eq_some_iff, decodeWord_unimplementedWord?]

/-- Every word decodes to a well-formed instruction (R90). -/
theorem decodeWord_wellFormed : (decodeWord w).wellFormed = true := by
  rw [Instr.wellFormed_iff]
  intro v hv
  obtain ⟨hw, rfl⟩ := (decodeWord_eq_unimplemented_iff w v).1 hv
  exact hw

end

end Sys2Proof

namespace Sys2Proof.Machine

/-! ### What the instructions do to `CAUSE.ExcCode` -/

theorem exec_unimplemented (w : Word) (s : State) : exec (.unimplemented w) s = .next s.pulseDiag := rfl

/-- A diagnostic no-op drives the diagnostic output and changes nothing else (R280). -/
theorem pulseDiag_onlyOutputs (s : State) :
    Claims.OnlyOutputs (some ⟨s.instruction, s.currentPc⟩) s.cop2 s s.pulseDiag where
  diagPulse := rfl
  cop2Port := rfl
  registers _ := rfl
  memory _ := rfl
  rest := rfl

@[simp] theorem writeCop0_excCode (s : State) (r : Cop0Reg) (v : Word) :
    (s.writeCop0 r v).cause.excCode = s.cause.excCode := by
  cases r <;> rfl

/-- The causes an instruction raises; the others are the interrupt's, or raised nowhere in this core (R300). -/
def instrCauses : List ExcCause := [.loadAddrError, .writeAddrError, .syscall, .breakPoint, .overflow]

/-- An instruction leaves `ExcCode` as it is, or sets that of a cause it raises (R45, R303). -/
theorem Effect.excCode {i : Instr} {s t : State} (h : Effect i s t) :
    t.cause.excCode = s.cause.excCode ∨ ∃ c ∈ instrCauses, t.cause.excCode = c.code := by
  cases h
  case trap c hc => exact .inr ⟨c, by rcases hc with rfl | rfl | rfl <;> decide, rfl⟩
  case addrError c a hc => exact .inr ⟨c, by rcases hc with rfl | rfl <;> decide, rfl⟩
  case writeCop0 => exact .inl (writeCop0_excCode s _ _)
  all_goals exact .inl rfl

/-- No instruction sets `ExcCode` to that of ReserveInst (R102). -/
theorem Effect.excCode_of_reserveInst {i : Instr} {s t : State} (h : Effect i s t)
    (ht : t.cause.excCode = ExcCause.reserveInst.code) : s.cause.excCode = ExcCause.reserveInst.code := by
  obtain hs | ⟨c, hc, htc⟩ := h.excCode
  · exact hs ▸ ht
  · have hne : ∀ c ∈ instrCauses, c.code ≠ ExcCause.reserveInst.code := by decide
    exact absurd (htc ▸ ht) (hne c hc)

end Sys2Proof.Machine

namespace Sys2Proof.Claims

open Sys2Proof.Machine

/-- Settles O4: the decoder level by level against the list of R102, the no-op by its one operation, the code by the
shapes of a next state. -/
theorem unimplementedWordsAreThoseOfR102 : Obligations.UnimplementedWordsAreThoseOfR102 := by
  refine ⟨fun w => ?_, fun w hw => (decodeWord_eq_unimplemented_iff w w).2 ⟨hw, rfl⟩, decodeWord_wellFormed,
    fun w s => ⟨_, exec_unimplemented w s, pulseDiag_onlyOutputs s⟩,
    fun _ _ _ h ht => (effect_of_exec h).excCode_of_reserveInst ht⟩
  simp only [decodeWord_eq_unimplemented_iff, exists_and_left, exists_eq', and_true]

end Sys2Proof.Claims
end

section
/-! PROOF. Signed overflow (spec/41_alu_arith_logic.md R140): the sign tests of the model, the exact integer result in their
place, what a trapping instruction answers on each side of the range, and the obligation about it. -/

namespace Sys2Proof.Machine

/-! ### The sign tests say that the exact result does not fit (R140, C6) -/

section
variable (a b : Word)

theorem addOverflows_iff_signs : addOverflows a b = true ↔ a.msb = b.msb ∧ (a + b).msb ≠ a.msb := by
  simp [addOverflows]

theorem subOverflows_iff_signs : subOverflows a b = true ↔ a.msb ≠ b.msb ∧ (a - b).msb ≠ a.msb := by
  simp [subOverflows]

theorem addOverflows_eq_saddOverflow : addOverflows a b = a.saddOverflow b :=
  (BitVec.saddOverflow_eq a b).symm

/-- The two sign patterns of an overflowing difference, positive minus negative and negative minus positive, are the one
test of C6. -/
theorem subOverflows_eq_ssubOverflow : subOverflows a b = a.ssubOverflow b := by
  rw [BitVec.ssubOverflow_eq, subOverflows]
  cases a.msb <;> cases b.msb <;> simp

theorem addOverflows_iff_not_fits : addOverflows a b = true ↔ ¬ Claims.Fits (a.toInt + b.toInt) := by
  simp only [addOverflows_eq_saddOverflow, BitVec.saddOverflow, Bool.or_eq_true, decide_eq_true_eq, Claims.Fits]
  omega

theorem subOverflows_iff_not_fits : subOverflows a b = true ↔ ¬ Claims.Fits (a.toInt - b.toInt) := by
  simp only [subOverflows_eq_ssubOverflow, BitVec.ssubOverflow, Bool.or_eq_true, decide_eq_true_eq, Claims.Fits]
  omega

/-! ### The wrapped result is the exact one modulo 2^32 -/

theorem ofInt_toInt_add : BitVec.ofInt 32 (a.toInt + b.toInt) = a + b := by
  rw [BitVec.ofInt_add, BitVec.ofInt_toInt, BitVec.ofInt_toInt]

theorem ofInt_toInt_sub : BitVec.ofInt 32 (a.toInt - b.toInt) = a - b := by
  apply BitVec.eq_of_toInt_eq
  rw [BitVec.toInt_ofInt, BitVec.toInt_sub]

theorem toInt_sext16 (imm : Half) : (sext16 imm).toInt = imm.toInt := BitVec.toInt_signExtend_of_le (by decide)

end

/-! ### What the instructions answer (R141 to R144, R151, R152) -/

section
variable (s : State)

theorem exec_add (rd rs rt : RegIdx) :
    exec (.add rd rs rt) s =
      if addOverflows (s.x rs) (s.x rt) then .next (s.raise .overflow) else .next (s.writeGpr rd (s.x rs + s.x rt)) := rfl

theorem exec_sub (rd rs rt : RegIdx) :
    exec (.sub rd rs rt) s =
      if subOverflows (s.x rs) (s.x rt) then .next (s.raise .overflow) else .next (s.writeGpr rd (s.x rs - s.x rt)) := rfl

theorem exec_addi (rt rs : RegIdx) (imm : Half) :
    exec (.addi rt rs imm) s =
      if addOverflows (s.x rs) (sext16 imm) then .next (s.raise .overflow)
      else .next (s.writeGpr rt (s.x rs + sext16 imm)) := rfl

theorem exec_addu (rd rs rt : RegIdx) : exec (.addu rd rs rt) s = .next (s.writeGpr rd (s.x rs + s.x rt)) := rfl
theorem exec_subu (rd rs rt : RegIdx) : exec (.subu rd rs rt) s = .next (s.writeGpr rd (s.x rs - s.x rt)) := rfl
theorem exec_addiu (rt rs : RegIdx) (imm : Half) :
    exec (.addiu rt rs imm) s = .next (s.writeGpr rt (s.x rs + sext16 imm)) := rfl

/-- A register write is what the claims say of it, register 0 included (R21). -/
theorem writesRegister_writeGpr (r : RegIdx) (v : Word) : Claims.WritesRegister r v s (s.writeGpr r v) where
  value := by
    rw [xpost_writeGpr]
    by_cases hr : r = 0#5 <;> simp [hr]
  others q hq := by rw [xpost_writeGpr, if_neg fun h => hq h.1]
  memory _ := rfl
  rest := rfl

/-- An overflow raises code 12 at the general vector and leaves `BadVAddr` (R140, R303). -/
theorem raises_overflow : Claims.Raises 12#5 s.badVAddr s (s.raise .overflow) :=
  enters_enterException s .overflow s.currentPc s.pc s.badVAddr

/-- An instruction that traps exactly when its exact result `r` does not fit writes `r` on the one side of the range and
raises Overflow on the other. -/
theorem writes_or_overflows {i : Instr} {rd : RegIdx} {overflows : Bool} {v : Word} {r : Int}
    (hexec : exec i s = if overflows then .next (s.raise .overflow) else .next (s.writeGpr rd v))
    (hov : overflows = true ↔ ¬ Claims.Fits r) (hv : BitVec.ofInt 32 r = v) :
    (Claims.Fits r → ∃ t, exec i s = .next t ∧ Claims.WritesRegister rd (BitVec.ofInt 32 r) s t) ∧
    (¬ Claims.Fits r → ∃ t, exec i s = .next t ∧ Claims.Raises 12#5 s.badVAddr s t) := by
  constructor
  · intro hr
    exact ⟨_, hexec.trans (if_neg fun h => hov.1 h hr), hv ▸ writesRegister_writeGpr s rd v⟩
  · intro hr
    exact ⟨_, hexec.trans (if_pos (hov.2 hr)), raises_overflow s⟩

end

end Sys2Proof.Machine

namespace Sys2Proof.Claims

open Sys2Proof.Machine

/-- Settles O25: the three trapping forms by the one rule `writes_or_overflows`, the unsigned forms by their register write,
the sign tests by the model's own. -/
theorem signedOverflowTraps : Obligations.SignedOverflowTraps := by
  refine ⟨fun rd rs rt s => ?add, fun rd rs rt s => ?sub, fun rt rs imm s => ?addi,
    fun a b c imm i s hi => ?unsigned, fun a b => ⟨?sumSigns, ?differenceSigns⟩⟩
  case add => exact writes_or_overflows s (exec_add s rd rs rt) (addOverflows_iff_not_fits _ _) (ofInt_toInt_add _ _)
  case sub => exact writes_or_overflows s (exec_sub s rd rs rt) (subOverflows_iff_not_fits _ _) (ofInt_toInt_sub _ _)
  case addi =>
    rw [← toInt_sext16 imm]
    exact writes_or_overflows s (exec_addi s rt rs imm) (addOverflows_iff_not_fits _ _) (ofInt_toInt_add _ _)
  case unsigned =>
    obtain rfl | rfl | rfl := hi
    · exact ⟨_, exec_addu s a b c, rfl, rfl, rfl⟩
    · exact ⟨_, exec_subu s a b c, rfl, rfl, rfl⟩
    · exact ⟨_, exec_addiu s a b imm, rfl, rfl, rfl⟩
  case sumSigns => exact (addOverflows_iff_not_fits a b).symm.trans (addOverflows_iff_signs a b)
  case differenceSigns => exact (subOverflows_iff_not_fits a b).symm.trans (subOverflows_iff_signs a b)

end Sys2Proof.Claims
end

section
/-! PROOF. The signed divide at the most negative number by -1 (spec/43_muldiv.md R185): what a write of `hi` and `lo` is to
the claims, the two results of the excluded case, and the obligation about it. -/

namespace Sys2Proof.Machine

/-! ### What the divide answers -/

theorem exec_div (s : State) (rs rt : RegIdx) :
    exec (.div rs rt) s =
      .next (s.writeHiLo (signedRemainder (s.x rs) (s.x rt)) (signedQuotient (s.x rs) (s.x rt))) := rfl

/-- A write of `hi` and `lo` is what the claims say of it (R180). -/
theorem writesHiLo_writeHiLo (s : State) (h l : Word) : Claims.WritesHiLo h l s (s.writeHiLo h l) where
  hiValue := writeHiLo_hi s h l
  loValue := writeHiLo_lo s h l
  registers _ := rfl
  memory _ := rfl
  rest := rfl

/-! ### The quotient 2^31 does not fit: the two results are fixed (R185) -/

theorem signedQuotient_mostNegative_by_minusOne : signedQuotient 0x80000000#32 0xFFFFFFFF#32 = 0x80000000#32 := by
  rw [signedQuotient, if_neg (by decide), if_pos ⟨rfl, rfl⟩]

theorem signedRemainder_mostNegative_by_minusOne : signedRemainder 0x80000000#32 0xFFFFFFFF#32 = 0#32 := by
  rw [signedRemainder, if_neg (by decide), if_pos ⟨rfl, rfl⟩]

end Sys2Proof.Machine

namespace Sys2Proof.Claims

open Sys2Proof.Machine

/-- Settles O31: DIV writes its remainder and quotient and raises nothing; at these operands they are the fixed ones. -/
theorem divideMostNegativeByMinusOne : Obligations.DivideMostNegativeByMinusOne := by
  intro rs rt s hn hd
  refine ⟨_, exec_div s rs rt, ?_⟩
  rw [hn, hd, signedRemainder_mostNegative_by_minusOne, signedQuotient_mostNegative_by_minusOne]
  exact writesHiLo_writeHiLo s _ _

end Sys2Proof.Claims
end

section
/-! PROOF. The exception vectors (spec/60_exceptions.md R304): where each cause goes by `SR.BEV`, and the obligation about
them. -/

namespace Sys2Proof.Machine

/-! ### Where an entry goes, and what it leaves of `SR.BEV` (R304) -/

section
variable (s : State)

theorem vector_breakPoint (bev : Bool) :
    ExcCause.breakPoint.vector bev = if bev then 0xBFC00140#32 else 0x80000040#32 := rfl

/-- An entry pushes the privilege stack, which stands below BEV (R44, R304). -/
theorem enterException_bev (c : ExcCause) (v n : Word) : (s.enterException c v n).bev = s.bev :=
  getLsbD_pushPrivilege s.sr 22

theorem enterException_pc_general {c : ExcCause} (hc : c ≠ .breakPoint) (v n : Word) :
    (s.enterException c v n).pc = if s.bev then 0xBFC00180#32 else 0x80000080#32 := by
  rw [enterException_pc, vector_of_ne_breakPoint hc]

theorem enterException_pc_breakPoint (v n : Word) :
    (s.enterException .breakPoint v n).pc = if s.bev then 0xBFC00140#32 else 0x80000040#32 := by
  rw [enterException_pc, vector_breakPoint]

end

end Sys2Proof.Machine

namespace Sys2Proof.Claims

open Sys2Proof.Machine

/-- Settles O19: one rule for BREAK and one for every other cause, each at both values of BEV, which an entry keeps. -/
theorem vectorsAreSelectedByBEV : Obligations.VectorsAreSelectedByBEV := by
  intro c v n s
  refine ⟨fun hb hc => ?general, fun hb hc => ?generalBoot, fun hb hc => ?debug, fun hb hc => ?debugBoot,
    enterException_bev s c v n⟩
  case general => rw [enterException_pc_general s hc, State.bev, hb, if_neg Bool.false_ne_true]
  case generalBoot => rw [enterException_pc_general s hc, State.bev, hb, if_pos rfl]
  case debug => rw [hc, enterException_pc_breakPoint, State.bev, hb, if_neg Bool.false_ne_true]
  case debugBoot => rw [hc, enterException_pc_breakPoint, State.bev, hb, if_pos rfl]

end Sys2Proof.Claims
end

section
/-! PROOF. Every dispatch step terminates (spec/70_reset_and_hazards.md R361): a step and a run of steps answer a next state,
from every state. -/

namespace Sys2Proof.Machine

/-- Both exceptions of the dispatch answer a next state, and so does every instruction, whatever word was fetched (R361). -/
theorem exists_step_eq_next (s : State) : ∃ t, step s = .next t := by
  obtain ⟨-, hstep⟩ | ⟨-, -, hstep⟩ | ⟨-, -, hstep⟩ := step_cases s
  case inl => exact ⟨_, hstep⟩
  case inr.inl => exact ⟨_, hstep⟩
  case inr.inr =>
    obtain ⟨t, hexec, -⟩ := exec_effect (decodeWord s.fetched.instruction) s.fetched
    exact ⟨t, hstep.trans hexec⟩

/-- A run is never cut short (R361). -/
theorem exists_core_run_eq_next (n : Nat) (s : State) : ∃ t, Sys2Proof.core.run n s = .next t := by
  induction n generalizing s with
  | zero => exact ⟨s, rfl⟩
  | succ n ih =>
    obtain ⟨u, hstep⟩ := exists_step_eq_next s
    obtain ⟨t, hrun⟩ := ih u
    exact ⟨t, (core_run_next n hstep).trans hrun⟩

end Sys2Proof.Machine

namespace Sys2Proof.Claims

open Sys2Proof.Machine

/-- Settles O12: one step by the inversion of a step and the shape of every instruction's answer, a run by induction on the
number of steps. -/
theorem everyStepAnswersANextState : Obligations.EveryStepAnswersANextState :=
  ⟨exists_step_eq_next, exists_core_run_eq_next⟩

end Sys2Proof.Claims
end

section
/-! PROOF. The decoder and the encoder (spec/30_encoding.md R90 to R101, R107): the fields of the words of each format, the
round trip, the ignored fields, the encoding formulas, and the decoder against the rows of the opcode table. -/

namespace Sys2Proof

/-! ### Words and their fields (R91, R92) -/

/-- The word with the given fields (R91). -/
def fieldsWord (op : BitVec 6) (rs rt rd sa : BitVec 5) (funct : BitVec 6) : Word := op ++ rs ++ rt ++ rd ++ sa ++ funct

/-- A word is that of its fields. -/
theorem fieldsWord_fields (w : Word) : fieldsWord (opOf w) (rsOf w) (rtOf w) (rdOf w) (saOf w) (functOf w) = w := by
  apply BitVec.eq_of_getLsbD_eq
  intro i hi
  simp only [opOf, rsOf, rtOf, rdOf, saOf, functOf, fieldsWord, BitVec.getLsbD_append]
  interval_cases i <;> simp

theorem fields_fieldsWord (op funct : BitVec 6) (rs rt rd sa : BitVec 5) :
    opOf (fieldsWord op rs rt rd sa funct) = op ∧ rsOf (fieldsWord op rs rt rd sa funct) = rs ∧
    rtOf (fieldsWord op rs rt rd sa funct) = rt ∧ rdOf (fieldsWord op rs rt rd sa funct) = rd ∧
    saOf (fieldsWord op rs rt rd sa funct) = sa ∧ functOf (fieldsWord op rs rt rd sa funct) = funct := by
  simp (disch := decide) only [opOf, rsOf, rtOf, rdOf, saOf, functOf, fieldsWord, BitVec.extractLsb'_append_eq_of_le,
    BitVec.extractLsb'_append_eq_of_add_le, Nat.reduceSub, BitVec.extractLsb'_eq_self, and_self]

theorem fieldsWord_inj (op op' funct funct' : BitVec 6) (rs rt rd sa rs' rt' rd' sa' : BitVec 5) :
    fieldsWord op rs rt rd sa funct = fieldsWord op' rs' rt' rd' sa' funct' ↔
      op = op' ∧ rs = rs' ∧ rt = rt' ∧ rd = rd' ∧ sa = sa' ∧ funct = funct' := by
  constructor
  · intro h
    obtain ⟨h1, h2, h3, h4, h5, h6⟩ := fields_fieldsWord op funct rs rt rd sa
    obtain ⟨k1, k2, k3, k4, k5, k6⟩ := fields_fieldsWord op' funct' rs' rt' rd' sa'
    rw [h] at h1 h2 h3 h4 h5 h6
    exact ⟨h1.symm.trans k1, h2.symm.trans k2, h3.symm.trans k3, h4.symm.trans k4, h5.symm.trans k5, h6.symm.trans k6⟩
  · rintro ⟨rfl, rfl, rfl, rfl, rfl, rfl⟩
    rfl

theorem fields_and (v w : Word) :
    opOf (v &&& w) = opOf v &&& opOf w ∧ rsOf (v &&& w) = rsOf v &&& rsOf w ∧ rtOf (v &&& w) = rtOf v &&& rtOf w ∧
    rdOf (v &&& w) = rdOf v &&& rdOf w ∧ saOf (v &&& w) = saOf v &&& saOf w ∧
    functOf (v &&& w) = functOf v &&& functOf w := by
  simp only [opOf, rsOf, rtOf, rdOf, saOf, functOf, BitVec.extractLsb'_and, and_self]

/-- A word under a mask, field by field. -/
theorem and_fieldsWord (w : Word) (op funct : BitVec 6) (rs rt rd sa : BitVec 5) :
    w &&& fieldsWord op rs rt rd sa funct =
      fieldsWord (opOf w &&& op) (rsOf w &&& rs) (rtOf w &&& rt) (rdOf w &&& rd) (saOf w &&& sa)
        (functOf w &&& funct) := by
  rw [← fieldsWord_fields (w &&& _)]
  simp only [fields_and, fields_fieldsWord]

/-! ### The fields of a word of each format (R92) -/

section
variable (op funct : BitVec 6) (rs rt rd sa : BitVec 5) (imm : Half)

@[simp] theorem fields_rWord :
    opOf (rWord rs rt rd sa funct) = 0x00#6 ∧ rsOf (rWord rs rt rd sa funct) = rs ∧
    rtOf (rWord rs rt rd sa funct) = rt ∧ rdOf (rWord rs rt rd sa funct) = rd ∧
    saOf (rWord rs rt rd sa funct) = sa ∧ functOf (rWord rs rt rd sa funct) = funct :=
  fields_fieldsWord ..

@[simp] theorem fields_copWord :
    opOf (copWord op rs rt rd funct) = op ∧ rsOf (copWord op rs rt rd funct) = rs ∧
    rtOf (copWord op rs rt rd funct) = rt ∧ rdOf (copWord op rs rt rd funct) = rd ∧
    saOf (copWord op rs rt rd funct) = 0#5 ∧ functOf (copWord op rs rt rd funct) = funct :=
  fields_fieldsWord ..

@[simp] theorem fields_iWord :
    opOf (iWord op rs rt imm) = op ∧ rsOf (iWord op rs rt imm) = rs ∧ rtOf (iWord op rs rt imm) = rt ∧
    immOf (iWord op rs rt imm) = imm := by
  simp (disch := decide) only [opOf, rsOf, rtOf, immOf, iWord, BitVec.extractLsb'_append_eq_of_le,
    BitVec.extractLsb'_append_eq_of_add_le, Nat.reduceSub, BitVec.extractLsb'_eq_self, and_self]

@[simp] theorem fields_jWord (target : BitVec 26) :
    opOf (jWord op target) = op ∧ targetOf (jWord op target) = target := by
  simp (disch := decide) only [opOf, targetOf, jWord, BitVec.extractLsb'_append_eq_of_le,
    BitVec.extractLsb'_append_eq_of_add_le, Nat.reduceSub, BitVec.extractLsb'_eq_self, and_self]

theorem fields_codeWord (code : BitVec 20) :
    opOf (0x00#6 ++ code ++ funct) = 0x00#6 ∧ codeOf (0x00#6 ++ code ++ funct) = code ∧
    functOf (0x00#6 ++ code ++ funct) = funct := by
  simp (disch := decide) only [opOf, codeOf, functOf, BitVec.extractLsb'_append_eq_of_le,
    BitVec.extractLsb'_append_eq_of_add_le, Nat.reduceSub, BitVec.extractLsb'_eq_self, and_self]

theorem fields_commandWord (command : BitVec 25) :
    opOf (0x12#6 ++ 1#1 ++ command) = 0x12#6 ∧ (rsOf (0x12#6 ++ 1#1 ++ command)).getLsbD 4 = true ∧
    commandOf (0x12#6 ++ 1#1 ++ command) = command := by
  simp (disch := decide) only [opOf, rsOf, commandOf, BitVec.extractLsb'_append_eq_of_le,
    BitVec.extractLsb'_append_eq_of_add_le, Nat.reduceSub, BitVec.extractLsb'_eq_self, BitVec.getLsbD_extractLsb',
    BitVec.getLsbD_append, and_true, true_and]
  rfl

/-- A coprocessor register move with anything in I[10:0] (R101). -/
theorem fields_moveWord (low : BitVec 11) :
    opOf (op ++ rs ++ rt ++ rd ++ low) = op ∧ rsOf (op ++ rs ++ rt ++ rd ++ low) = rs ∧
    rtOf (op ++ rs ++ rt ++ rd ++ low) = rt ∧ rdOf (op ++ rs ++ rt ++ rd ++ low) = rd := by
  simp (disch := decide) only [opOf, rsOf, rtOf, rdOf, BitVec.extractLsb'_append_eq_of_le,
    BitVec.extractLsb'_append_eq_of_add_le, Nat.reduceSub, BitVec.extractLsb'_eq_self, and_self]

/-- A coprocessor word with anything in I[20:6] (R101). -/
theorem fields_cofunWord (mid : BitVec 15) :
    opOf (op ++ rs ++ mid ++ funct) = op ∧ rsOf (op ++ rs ++ mid ++ funct) = rs ∧
    functOf (op ++ rs ++ mid ++ funct) = funct := by
  simp (disch := decide) only [opOf, rsOf, functOf, BitVec.extractLsb'_append_eq_of_le,
    BitVec.extractLsb'_append_eq_of_add_le, Nat.reduceSub, BitVec.extractLsb'_eq_self, and_self]

end

/-! ### The round trip (R90 to R99) -/

/-- The decoder reads every well-formed instruction back from its word. -/
theorem decodeWord_encode (i : Instr) (hi : i.wellFormed = true) : decodeWord (encode i) = i := by
  cases i
  case sll | srl | sra | sllv | srlv | srav | jr | jalr | mfhi | mthi | mflo | mtlo | mult | multu | div | divu | add
      | addu | sub | subu | and | or | xor | nor | slt | sltu =>
    simp [encode, decodeWord, decodeSpecial]
  case syscall code | brk code => simp only [encode, decodeWord, decodeSpecial, fields_codeWord]
  case bltz | bgez | bltzal | bgezal => simp [encode, decodeWord, decodeBcondZ]
  case mfc0 | mtc0 | rfe => simp [encode, decodeWord, decodeCop0]
  case mfc2 | cfc2 | mtc2 | ctc2 => simp [encode, decodeWord, decodeCop2]
  case cop2 command => simp only [encode, decodeWord, decodeCop2, fields_commandWord, if_true]
  case unimplemented w => exact (decodeWord_eq_unimplemented_iff w w).2 ⟨hi, rfl⟩
  all_goals simp [encode, decodeWord]

/-- The bytes of a well-formed instruction at the head of a list are read as it, and the bytes after them are left. -/
theorem decode_encodeBytes_append (i : Instr) (hi : i.wellFormed = true) (rest : List Byte) :
    decode (encodeBytes i ++ rest) = .ok (i, rest) := by
  show Except.ok (decodeWord (wordOfBytes (byteOfWord (encode i) 0) (byteOfWord (encode i) 1) (byteOfWord (encode i) 2)
    (byteOfWord (encode i) 3)), rest) = _
  rw [Machine.wordOfBytes_byteOfWord, decodeWord_encode i hi]

/-! ### The formulas (R107) -/

section
variable (op funct : BitVec 6) (rs rt rd sa : BitVec 5)

/-- The six fields shifted to their places. -/
theorem fieldsWord_eq_or : fieldsWord op rs rt rd sa funct =
    (op.setWidth 32 <<< 26) ||| (rs.setWidth 32 <<< 21) ||| (rt.setWidth 32 <<< 16) ||| (rd.setWidth 32 <<< 11) |||
      (sa.setWidth 32 <<< 6) ||| funct.setWidth 32 := by
  calc fieldsWord op rs rt rd sa funct
      = (op ++ rs ++ rt ++ rd ++ sa ++ funct).setWidth 32 := (BitVec.setWidth_eq _).symm
    _ = _ := by
      simp only [BitVec.setWidth_append_eq_shiftLeft_setWidth_or, BitVec.shiftLeft_or_distrib, ← BitVec.shiftLeft_add]

theorem iWord_eq_or (imm : Half) : iWord op rs rt imm =
    (op.setWidth 32 <<< 26) ||| (rs.setWidth 32 <<< 21) ||| (rt.setWidth 32 <<< 16) ||| imm.setWidth 32 := by
  calc iWord op rs rt imm
      = (op ++ rs ++ rt ++ imm).setWidth 32 := (BitVec.setWidth_eq _).symm
    _ = _ := by
      simp only [BitVec.setWidth_append_eq_shiftLeft_setWidth_or, BitVec.shiftLeft_or_distrib, ← BitVec.shiftLeft_add]

theorem jWord_eq_or (target : BitVec 26) : jWord op target = (op.setWidth 32 <<< 26) ||| target.setWidth 32 :=
  (BitVec.setWidth_eq _).symm.trans BitVec.setWidth_append_eq_shiftLeft_setWidth_or

theorem codeWord_eq_or (code : BitVec 20) :
    (0x00#6 ++ code ++ funct : Word) = (code.setWidth 32 <<< 6) ||| funct.setWidth 32 := by
  calc (0x00#6 ++ code ++ funct : Word)
      = (0x00#6 ++ code ++ funct).setWidth 32 := (BitVec.setWidth_eq _).symm
    _ = _ := by
      simp only [BitVec.setWidth_append_eq_shiftLeft_setWidth_or]
      simp

end

end Sys2Proof

namespace Sys2Proof.Claims

/-! ### The rows of the opcode table (R95 to R99) -/

/-- The test of a row of the opcode table. -/
def TableRow.fits (w : Word) (r : TableRow) : Bool := w &&& r.mask == r.value

/-- The mnemonic of the first row of a list that a word fits, `UNIMPLEMENTED` where none does. -/
def firstMatchIn (rows : List TableRow) (w : Word) : String :=
  ((rows.find? (TableRow.fits w)).map TableRow.mnemonic).getD "UNIMPLEMENTED"

theorem firstMatch_eq (w : Word) : firstMatch w = firstMatchIn tableRows w := by
  simp only [firstMatch, firstMatchIn]
  show (match tableRows.find? (TableRow.fits w) with | some r => r.mnemonic | none => _) = _
  cases tableRows.find? (TableRow.fits w) <;> rfl

/-- Rows that a word cannot fit may be left out. -/
theorem firstMatchIn_filter (rows : List TableRow) (p : TableRow → Bool) (w : Word)
    (h : ∀ r ∈ rows, r.fits w = true → p r = true) : firstMatchIn rows w = firstMatchIn (rows.filter p) w := by
  rw [firstMatchIn, firstMatchIn, List.find?_filter]
  congr 2
  apply List.find?_congr
  intro r hr
  cases hf : r.fits w <;> simp
  simpa [hf] using h r hr

/-- The rows of a primary opcode. -/
def rowsOfOp (op : BitVec 6) : List TableRow := tableRows.filter fun r => opOf r.value == op

/-- The rows of a `funct` under `op` = 0. -/
def rowsOfFunct (funct : BitVec 6) : List TableRow := (rowsOfOp 0x00#6).filter fun r => functOf r.value == funct

theorem fits_iff (w : Word) (r : TableRow) : r.fits w = true ↔ w &&& r.mask = r.value := beq_iff_eq

/-- A field that the mask covers is the row's. -/
theorem field_of_fits {w : Word} {r : TableRow} {start len : Nat} (h : r.fits w = true)
    (hm : r.mask.extractLsb' start len = BitVec.allOnes len) : r.value.extractLsb' start len = w.extractLsb' start len := by
  rw [← (fits_iff w r).1 h, BitVec.extractLsb'_and, hm, BitVec.and_allOnes]

theorem firstMatch_eq_of_op {w : Word} {op : BitVec 6} (hop : opOf w = op) :
    firstMatch w = firstMatchIn (rowsOfOp op) w := by
  rw [firstMatch_eq]
  have hmask : ∀ r ∈ tableRows, r.mask.extractLsb' 26 6 = BitVec.allOnes 6 := by decide
  exact firstMatchIn_filter _ _ _ fun r hr hf => beq_iff_eq.2 ((field_of_fits hf (hmask r hr)).trans hop)

theorem firstMatch_eq_of_funct {w : Word} {funct : BitVec 6} (hop : opOf w = 0x00#6) (hf : functOf w = funct) :
    firstMatch w = firstMatchIn (rowsOfFunct funct) w := by
  have hmask : ∀ r ∈ rowsOfOp 0x00#6, r.mask.extractLsb' 0 6 = BitVec.allOnes 6 := by decide
  rw [firstMatch_eq_of_op hop]
  exact firstMatchIn_filter _ _ _ fun r hr h => beq_iff_eq.2 ((field_of_fits h (hmask r hr)).trans hf)

/-- No row has an `op` of R102. -/
theorem rowsOfOp_of_unimplemented {op : BitVec 6} (h : unimplementedOp op = true) : rowsOfOp op = [] := by
  apply List.isEmpty_iff.1
  revert op
  decide

/-- No row has a `funct` of R102 under `op` = 0. -/
theorem rowsOfFunct_of_unimplemented {funct : BitVec 6} (h : unimplementedFunct funct = true) : rowsOfFunct funct = [] := by
  apply List.isEmpty_iff.1
  revert funct
  decide

theorem firstMatchIn_nil (w : Word) : firstMatchIn [] w = "UNIMPLEMENTED" := rfl

theorem firstMatchIn_cons (r : TableRow) (rows : List TableRow) (w : Word) :
    firstMatchIn (r :: rows) w = if w &&& r.mask = r.value then r.mnemonic else firstMatchIn rows w := by
  simp only [firstMatchIn, List.find?_cons, ← fits_iff]
  cases r.fits w <;> rfl

section
variable {w : Word} {m : String}

/-- A primary opcode with one row, which looks at nothing else (R95). -/
theorem firstMatch_of_op {op : BitVec 6} (hop : opOf w = op)
    (hrow : rowsOfOp op = [⟨m, fieldsWord 0x3F#6 0 0 0 0 0, fieldsWord op 0 0 0 0 0⟩]) : firstMatch w = m := by
  have h : opOf w &&& 0x3F#6 = op := hop ▸ BitVec.and_allOnes
  rw [firstMatch_eq_of_op hop, hrow, firstMatchIn_cons, if_pos]
  simp [and_fieldsWord, h]

/-- A row of `op` = 0, which looks at `op` and `funct` (R96). -/
theorem firstMatch_of_funct {funct : BitVec 6} (hop : opOf w = 0x00#6) (hf : functOf w = funct)
    (hrow : rowsOfFunct funct = [⟨m, fieldsWord 0x3F#6 0 0 0 0 0x3F#6, fieldsWord 0 0 0 0 0 funct⟩]) :
    firstMatch w = m := by
  have h : functOf w &&& 0x3F#6 = funct := hf ▸ BitVec.and_allOnes
  rw [firstMatch_eq_of_funct hop hf, hrow, firstMatchIn_cons, if_pos]
  simp [and_fieldsWord, h, hop]

theorem rowsOfOp_bcondZ : rowsOfOp 0x01#6 =
  [⟨"BLTZAL", fieldsWord 0x3F 0 0x1F 0 0 0, fieldsWord 0x01 0 0x10 0 0 0⟩,
   ⟨"BGEZAL", fieldsWord 0x3F 0 0x1F 0 0 0, fieldsWord 0x01 0 0x11 0 0 0⟩,
   ⟨"BLTZ", fieldsWord 0x3F 0 0x01 0 0 0, fieldsWord 0x01 0 0x00 0 0 0⟩,
   ⟨"BGEZ", fieldsWord 0x3F 0 0x01 0 0 0, fieldsWord 0x01 0 0x01 0 0 0⟩] := rfl

theorem rowsOfOp_cop0 : rowsOfOp 0x10#6 =
  [⟨"MFC0", fieldsWord 0x3F 0x1F 0 0 0 0, fieldsWord 0x10 0x00 0 0 0 0⟩,
   ⟨"MTC0", fieldsWord 0x3F 0x1F 0 0 0 0, fieldsWord 0x10 0x04 0 0 0 0⟩,
   ⟨"RFE", fieldsWord 0x3F 0x1F 0 0 0 0x3F, fieldsWord 0x10 0x10 0 0 0 0x10⟩] := rfl

theorem rowsOfOp_cop2 : rowsOfOp 0x12#6 =
  [⟨"MFC2", fieldsWord 0x3F 0x1F 0 0 0 0, fieldsWord 0x12 0x00 0 0 0 0⟩,
   ⟨"CFC2", fieldsWord 0x3F 0x1F 0 0 0 0, fieldsWord 0x12 0x02 0 0 0 0⟩,
   ⟨"MTC2", fieldsWord 0x3F 0x1F 0 0 0 0, fieldsWord 0x12 0x04 0 0 0 0⟩,
   ⟨"CTC2", fieldsWord 0x3F 0x1F 0 0 0 0, fieldsWord 0x12 0x06 0 0 0 0⟩,
   ⟨"COP2", fieldsWord 0x3F 0x10 0 0 0 0, fieldsWord 0x12 0x10 0 0 0 0⟩] := rfl

/-! ### The levels of `op` = 1, 0x10 and 0x12 (R97 to R99) -/

theorem firstMatch_of_bcondZ (hop : opOf w = 0x01#6) : firstMatch w =
    if rtOf w = 0x10#5 then "BLTZAL" else if rtOf w = 0x11#5 then "BGEZAL"
    else if (rtOf w).getLsbD 0 then "BGEZ" else "BLTZ" := by
  rw [firstMatch_eq_of_op hop, rowsOfOp_bcondZ]
  simp only [firstMatchIn_cons, firstMatchIn_nil, and_fieldsWord, fieldsWord_inj, hop]
  simp only [BitVec.ofNat_eq_ofNat, BitVec.and_zero, and_true, true_and]
  generalize rtOf w = rt
  revert rt
  decide

theorem firstMatch_of_cop0 (hop : opOf w = 0x10#6) : firstMatch w =
    if rsOf w = 0x00#5 then "MFC0" else if rsOf w = 0x04#5 then "MTC0"
    else if rsOf w = 0x10#5 ∧ functOf w = 0x10#6 then "RFE" else "UNIMPLEMENTED" := by
  have hr : rsOf w &&& 0x1F#5 = rsOf w := BitVec.and_allOnes
  have hf : functOf w &&& 0x3F#6 = functOf w := BitVec.and_allOnes
  rw [firstMatch_eq_of_op hop, rowsOfOp_cop0]
  simp only [firstMatchIn_cons, firstMatchIn_nil, and_fieldsWord, fieldsWord_inj, hop]
  simp [hr, hf]

theorem firstMatch_of_cop2 (hop : opOf w = 0x12#6) : firstMatch w =
    if rsOf w = 0x00#5 then "MFC2" else if rsOf w = 0x02#5 then "CFC2" else if rsOf w = 0x04#5 then "MTC2"
    else if rsOf w = 0x06#5 then "CTC2" else if (rsOf w).getLsbD 4 then "COP2" else "UNIMPLEMENTED" := by
  rw [firstMatch_eq_of_op hop, rowsOfOp_cop2]
  simp only [firstMatchIn_cons, firstMatchIn_nil, and_fieldsWord, fieldsWord_inj, hop]
  simp only [BitVec.ofNat_eq_ofNat, BitVec.and_zero, and_true]
  generalize rsOf w = rs
  revert rs
  decide

theorem mnemonic_decodeBcondZ (hop : opOf w = 0x01#6) : (decodeBcondZ w).mnemonic = firstMatch w := by
  rw [firstMatch_of_bcondZ hop]
  simp only [decodeBcondZ, apply_ite Instr.mnemonic]
  simp only [Instr.mnemonic]

theorem mnemonic_decodeCop0 (hop : opOf w = 0x10#6) : (decodeCop0 w).mnemonic = firstMatch w := by
  rw [firstMatch_of_cop0 hop]
  unfold decodeCop0
  split
  case h_3 hr => by_cases hf : functOf w = 0x10#6 <;> simp [hr, hf, Instr.mnemonic]
  case h_4 _ h0 h4 h10 =>
    rw [if_neg h0, if_neg h4, if_neg fun h => h10 h.1]
    rfl
  all_goals simp [*, Instr.mnemonic]

theorem mnemonic_decodeCop2 (hop : opOf w = 0x12#6) : (decodeCop2 w).mnemonic = firstMatch w := by
  rw [firstMatch_of_cop2 hop]
  unfold decodeCop2
  split
  case isTrue h4 =>
    have h : rsOf w ≠ 0x00#5 ∧ rsOf w ≠ 0x02#5 ∧ rsOf w ≠ 0x04#5 ∧ rsOf w ≠ 0x06#5 := by
      generalize rsOf w = rs at h4
      revert rs
      decide
    simp [h, Instr.mnemonic]
  case isFalse hcommand =>
    split
    case h_5 _ h0 h2 h4 h6 =>
      rw [if_neg h0, if_neg h2, if_neg h4, if_neg h6]
      rfl
    all_goals simp [*, Instr.mnemonic]

theorem mnemonic_decodeSpecial (hop : opOf w = 0x00#6) : (decodeSpecial w).mnemonic = firstMatch w := by
  unfold decodeSpecial
  split
  case h_29 =>
    have hf : unimplementedFunct (functOf w) = true := by
      rw [unimplementedFunct_iff]
      simp_all [implementedFuncts]
    rw [firstMatch_eq_of_funct hop rfl, rowsOfFunct_of_unimplemented hf]
    rfl
  all_goals
    exact (firstMatch_of_funct hop ‹_› rfl).symm

theorem mnemonic_decodeWord (w : Word) : (decodeWord w).mnemonic = firstMatch w := by
  unfold decodeWord
  split
  case h_1 hop => exact mnemonic_decodeSpecial hop
  case h_2 hop => exact mnemonic_decodeBcondZ hop
  case h_17 hop => exact mnemonic_decodeCop0 hop
  case h_18 hop => exact mnemonic_decodeCop2 hop
  case h_33 =>
    have hop : unimplementedOp (opOf w) = true := by
      rw [unimplementedOp_iff]
      simp_all [implementedOps]
    rw [firstMatch_eq_of_op rfl, rowsOfOp_of_unimplemented hop]
    rfl
  all_goals exact (firstMatch_of_op ‹_› rfl).symm

end

/-! ### The obligations -/

/-- Settles O2: the fields of each format, constructor by constructor. -/
theorem decodeOfEncodeIsTheInstruction : Obligations.DecodeOfEncodeIsTheInstruction :=
  fun i hi => ⟨decodeWord_encode i hi, decode_encodeBytes_append i hi⟩

/-- Settles O3: by `op` and then by the field the level of that `op` looks at, on the rows that are left. -/
theorem decodeFollowsTheOpcodeTable : Obligations.DecodeFollowsTheOpcodeTable := mnemonic_decodeWord

/-- Settles O5: a field appended to a word is the word shifted and the field put under it. -/
theorem encodeFollowsTheFormulas : Obligations.EncodeFollowsTheFormulas := by
  refine ⟨fun rs rt rd sa funct => ?r, fun op rs rt imm => iWord_eq_or op rs rt imm,
    fun op target => jWord_eq_or op target, fun rt rd => ?mfc0, fun rt rd => ?mtc0,
    fun code => codeWord_eq_or 0x0C#6 code, fun code => codeWord_eq_or 0x0D#6 code, rfl, rfl⟩
  case r =>
    refine (fieldsWord_eq_or 0x00#6 funct rs rt rd sa).trans ?_
    simp
  case mfc0 =>
    refine (fieldsWord_eq_or 0x10#6 0 0x00#5 rt rd 0).trans ?_
    simp
  case mtc0 =>
    refine (fieldsWord_eq_or 0x10#6 0 0x04#5 rt rd 0).trans ?_
    simp

/-- Settles O6: the decoder reads no other field than those the instruction has. -/
theorem ignoredBitsDoNotChangeTheInstruction : Obligations.IgnoredBitsDoNotChangeTheInstruction := by
  intro rs rt rd sa imm low mid
  refine ⟨?add, ?sll, ?jr, ?mult, ?mfhi, ?lui, ?blez, ?bgtz, ?mfc0, ?rfe⟩
  case mfc0 => simp only [decodeWord, decodeCop0, fields_moveWord]
  case rfe => simp only [decodeWord, decodeCop0, fields_cofunWord, if_true]
  all_goals simp [decodeWord, decodeSpecial]

/-- Settles O1: the words written out. -/
theorem decodeWordsFromTheEncodings : Obligations.DecodeWordsFromTheEncodings := by
  unfold Obligations.DecodeWordsFromTheEncodings
  decide

end Sys2Proof.Claims
end

section
/-! PROOF. What every step keeps (spec/10_state.md, spec/20_memory.md R61): the invariant, the alignment of the bus operations,
the address map, and who writes `hi`, `lo` and the coprocessor 0 registers. Each is proved shape by shape of `Effect`, and
carried to a step by its inversion. -/

namespace Sys2Proof.Machine

/-! ### The inversion of a step in the terms of the claims -/

/-- A step takes the interrupt that is due, or a fetch address error, or runs the decoded instruction (R311, R312, R67). -/
theorem step_inversion (s : State) :
    (Claims.InterruptDue s ∧ step s = .next s.beginStep.takeInterrupt) ∨
    (¬ Claims.InterruptDue s ∧ s.pc.toNat % 4 ≠ 0 ∧ step s = .next s.beginStep.latchCurrentPc.fetchAddrError) ∨
    (¬ Claims.InterruptDue s ∧ s.pc.toNat % 4 = 0 ∧ step s = exec (decodeWord s.fetched.instruction) s.fetched) := by
  have hirq := interruptTaken_beginStep_iff s
  have hpc := wordMisaligned_iff s.pc
  obtain ⟨hi, hstep⟩ | ⟨hi, hm, hstep⟩ | ⟨hi, hm, hstep⟩ := step_cases s
  · exact .inl ⟨hirq.1 hi, hstep⟩
  · exact .inr (.inl ⟨fun h => by simp [hirq.2 h] at hi, hpc.1 hm, hstep⟩)
  · exact .inr (.inr ⟨fun h => by simp [hirq.2 h] at hi, by_contra fun h => by simp [hpc.2 h] at hm, hstep⟩)

/-! ### What a coprocessor 0 write leaves alone (R252) -/

@[simp] theorem writeCop0_frame (s : State) (r : Cop0Reg) (v : Word) :
    (s.writeCop0 r v).gpr = s.gpr ∧ (s.writeCop0 r v).mem = s.mem ∧ (s.writeCop0 r v).busMap = s.busMap ∧
    (s.writeCop0 r v).hi = s.hi ∧ (s.writeCop0 r v).lo = s.lo ∧ (s.writeCop0 r v).pc = s.pc ∧
    (s.writeCop0 r v).nextPc = s.nextPc ∧ (s.writeCop0 r v).currentPc = s.currentPc ∧
    (s.writeCop0 r v).pendingLoad = s.pendingLoad ∧ (s.writeCop0 r v).branchDelayActive = s.branchDelayActive ∧
    (s.writeCop0 r v).branchTaken = s.branchTaken ∧ (s.writeCop0 r v).savedBranchTaken = s.savedBranchTaken := by
  cases r <;> exact ⟨rfl, rfl, rfl, rfl, rfl, rfl, rfl, rfl, rfl, rfl, rfl, rfl⟩

/-! ### The bus operations are aligned (R61) -/

theorem aligned_half {k : BusKind} {a d : Word} (ha : halfMisaligned a = false) :
    (BusOp.mk k .half a d).aligned = true := by
  have h : a.toNat % 2 ≠ 1 := fun h => Bool.false_ne_true (ha.symm.trans ((halfMisaligned_iff a).2 h))
  exact beq_iff_eq.2 (Nat.mod_two_ne_one.1 h)

theorem aligned_word {k : BusKind} {a d : Word} (ha : wordMisaligned a = false) :
    (BusOp.mk k .word a d).aligned = true :=
  beq_iff_eq.2 (by_contra fun h => Bool.false_ne_true (ha.symm.trans ((wordMisaligned_iff a).2 h)))

theorem aligned_wordAligned (k : BusKind) (a d : Word) : (BusOp.mk k .word (wordAligned a) d).aligned = true :=
  beq_iff_eq.2 (wordAligned_mod a)

section
variable {i : Instr} {s t : State}

theorem busInv_snoc {op : BusOp} (hs : s.busInv) (hop : op.aligned = true) (ht : t.bus = s.bus ++ [op]) : t.busInv := by
  simp only [State.busInv, ht, List.all_append, List.all_cons, List.all_nil, hop, Bool.and_true]
  exact hs

theorem Effect.keeps_busInv (h : Effect i s t) (hs : s.busInv) : t.busInv := by
  cases h
  case loadByte | storeByte => exact busInv_snoc hs rfl rfl
  case loadHalf ha => exact busInv_snoc hs (aligned_half ha) rfl
  case storeHalf ha => exact busInv_snoc hs (aligned_half ha) rfl
  case loadWord ha => exact busInv_snoc hs (aligned_word ha) rfl
  case storeWord ha => exact busInv_snoc hs (aligned_word ha) rfl
  case loadMerged a => exact busInv_snoc hs (aligned_wordAligned _ a _) rfl
  case storeMerged merge rt a =>
    have hread : (s.read32 (wordAligned a)).busInv := busInv_snoc hs (aligned_wordAligned _ a _) rfl
    exact busInv_snoc hread (aligned_wordAligned _ a _) rfl
  case writeCop0 r _ _ => simpa only [State.busInv, writeCop0_bus] using hs
  all_goals exact hs

/-! ### The other parts of the invariant -/

theorem Effect.keeps_zeroRegister (h : Effect i s t) (hs : s.zeroRegisterInv) : t.zeroRegisterInv := by
  cases h
  case register r v => exact writeGpr_keeps_zeroRegister s r v hs
  case branchLink r taken target => exact writeGpr_keeps_zeroRegister s r s.linkValue hs
  case writeCop0 r _ _ => simpa only [State.zeroRegisterInv, writeCop0_frame] using hs
  all_goals exact hs

theorem Effect.keeps_memory (h : Effect i s t) (hs : s.memoryInv) : t.memoryInv := by
  cases h
  case storeByte a v => exact write8_keeps_memory s a v hs
  case storeHalf a v _ => exact write16_keeps_memory s a v hs
  case storeWord a v _ => exact write32_keeps_memory s a v hs
  case storeMerged merge rt a => exact write32_keeps_memory _ _ _ hs
  case writeCop0 r _ _ => simpa only [State.memoryInv, writeCop0_frame] using hs
  all_goals exact hs

theorem pendingInv_of_none (hs : s.pendingLoad = none) : s.pendingInv := by
  simp [State.pendingInv, hs]

/-- A load stages its register as it stands; nothing else stages (R28). -/
theorem Effect.pendingInv (h : Effect i s t) (hs : s.pendingLoad = none) : t.pendingInv := by
  cases h
  case loadByte | loadHalf | loadWord | loadMerged | stageCop0 => exact stageLoad_pendingInv _ _ _
  case writeCop0 r _ _ => exact pendingInv_of_none (by simpa only [writeCop0_frame] using hs)
  all_goals exact pendingInv_of_none hs

/-- The state phase P6 starts from: no branch is latched yet, and the pair goes up in fours (R23, R27). -/
structure State.Unbranched (s : State) : Prop where
  active : s.branchDelayActive = false
  taken : s.branchTaken = false
  next : s.nextPc = s.pc + 4#32

/-- An entry puts `next_pc` 4 above `pc` and latches no branch (R303). -/
theorem Effect.pcPairInv (h : Effect i s t) (hs : s.Unbranched) : t.pcPairInv := by
  obtain ⟨hactive, htaken, hnext⟩ := hs
  have hkept : (s.branchTaken = false → s.nextPc = s.pc + 4#32) ∧ (s.branchTaken = true → s.branchDelayActive = true) :=
    ⟨fun _ => hnext, fun h => absurd h (by simp [htaken])⟩
  cases h
  case trap | addrError => exact ⟨fun _ => rfl, hkept.2⟩
  case branch taken target | branchLink r taken target =>
    refine ⟨fun h => ?_, fun _ => rfl⟩
    obtain rfl : taken = false := h
    exact hnext
  case writeCop0 r _ _ => simpa only [State.pcPairInv, writeCop0_frame] using hkept
  all_goals exact hkept

/-- Only a branch marks a delay slot, and it leaves `pc` and `current_pc` (R27, R201). -/
theorem Effect.slotInv (h : Effect i s t) (hs : s.Unbranched)
    (hpc : s.savedBranchTaken = false → s.pc = s.currentPc + 4#32) : t.slotInv := by
  have hkept : s.branchDelayActive ≠ true := by simp [hs.active]
  cases h
  case branch | branchLink => exact fun _ h => hpc h
  case writeCop0 r _ _ =>
    intro h
    rw [(by simp : (s.writeCop0 r _).branchDelayActive = s.branchDelayActive)] at h
    exact absurd h hkept
  all_goals exact fun h => absurd h hkept

end

/-! ### From an instruction to a step -/

/-- The state after P1 to P3 has the parts of the invariant that do not speak of the program counters. -/
theorem beginStep_keeps {s : State} (hs : s.Inv) :
    s.beginStep.zeroRegisterInv ∧ s.beginStep.memoryInv ∧ s.beginStep.busInv := by
  obtain ⟨hzero, hmem, -⟩ := hs
  exact ⟨phase2_keeps_zeroRegister s.phase1 hzero, hmem, rfl⟩

theorem fetched_unbranched (s : State) : s.fetched.Unbranched := ⟨rfl, rfl, rfl⟩

/-- The fetch of a step is aligned (R61, R67). -/
theorem fetched_busInv {s : State} (hpc : s.pc.toNat % 4 = 0) : s.fetched.busInv := by
  rw [State.busInv, fetched_bus, List.all_cons, List.all_nil, Bool.and_true]
  exact beq_iff_eq.2 hpc

/-- An exception taken before the execution, from a state with the other parts, has the invariant: no branch is latched and
no load is pending (R303). -/
theorem enterException_inv {s : State} (c : ExcCause) (v n bad : Word) (hzero : s.zeroRegisterInv) (hmem : s.memoryInv)
    (hbus : s.busInv) (hpending : s.pendingLoad = none) (hactive : s.branchDelayActive = false)
    (htaken : s.branchTaken = false) : State.Inv { s.enterException c v n with badVAddr := bad } := by
  refine ⟨hzero, hmem, pendingInv_of_none hpending, ⟨fun _ => rfl, fun h => ?_⟩, fun h => ?_, hbus⟩
  · exact absurd (htaken.symm.trans h) Bool.false_ne_true
  · exact absurd (hactive.symm.trans h) Bool.false_ne_true

/-- One step keeps the invariant. -/
theorem step_keeps_inv {s t : State} (hs : s.Inv) (h : step s = .next t) : t.Inv := by
  obtain ⟨hzero, hmem, hbus⟩ := beginStep_keeps hs
  obtain ⟨-, -, -, ⟨hnext, -⟩, -⟩ := hs
  obtain ⟨-, hstep⟩ | ⟨-, -, hstep⟩ | ⟨-, hpc, hstep⟩ := step_inversion s
  · cases hstep.symm.trans h
    exact enterException_inv .interrupt s.pc s.nextPc s.badVAddr hzero hmem hbus rfl rfl rfl
  · cases hstep.symm.trans h
    exact enterException_inv (s := s.beginStep.latchCurrentPc) .loadAddrError _ _ _ hzero hmem hbus rfl rfl rfl
  · have he := effect_of_exec (hstep.symm.trans h)
    exact ⟨he.keeps_zeroRegister hzero, he.keeps_memory hmem, he.pendingInv rfl, he.pcPairInv (fetched_unbranched s),
      he.slotInv (fetched_unbranched s) hnext, he.keeps_busInv (fetched_busInv hpc)⟩

/-- Every bus operation of every step is aligned, whatever state it starts from (R61). -/
theorem step_busInv {s t : State} (h : step s = .next t) : t.busInv := by
  obtain ⟨-, hstep⟩ | ⟨-, -, hstep⟩ | ⟨-, hpc, hstep⟩ := step_inversion s
  · cases hstep.symm.trans h
    rfl
  · cases hstep.symm.trans h
    rfl
  · exact (effect_of_exec (hstep.symm.trans h)).keeps_busInv (fetched_busInv hpc)

/-! ### `hi` and `lo` (R25) -/

/-- The instructions of the multiply unit (R25). -/
abbrev WritesMultiplyUnit (i : Instr) : Prop :=
  ∃ rs rt : RegIdx, i = .mult rs rt ∨ i = .multu rs rt ∨ i = .div rs rt ∨ i = .divu rs rt ∨ i = .mthi rs ∨ i = .mtlo rs

/-- `hi` and `lo` stay, or the instruction is one of the multiply unit and raises nothing. -/
theorem Effect.hiLo_cases {i : Instr} {s t : State} (h : Effect i s t) :
    (t.hi = s.hi ∧ t.lo = s.lo) ∨ (t.epc = s.epc ∧ t.cause = s.cause ∧ WritesMultiplyUnit i) := by
  cases h
  case hiLo hi => exact .inr ⟨rfl, rfl, hi⟩
  case writeCop0 r _ _ => exact .inl (by simp only [writeCop0_frame, and_self])
  all_goals exact .inl ⟨rfl, rfl⟩

/-- A step that changes `hi` or `lo` fetched and executed an instruction of the multiply unit, which raised nothing. -/
theorem step_hiLo {s t : State} (h : step s = .next t) (hne : t.hi ≠ s.hi ∨ t.lo ≠ s.lo) :
    ¬ Claims.InterruptDue s ∧ s.pc.toNat % 4 = 0 ∧ t.epc = s.epc ∧ t.cause = s.cause ∧
      WritesMultiplyUnit (decodeWord t.instruction) := by
  have hchanged : ¬ (t.hi = s.hi ∧ t.lo = s.lo) := fun ⟨hhi, hlo⟩ => hne.elim (· hhi) (· hlo)
  obtain ⟨-, hstep⟩ | ⟨-, -, hstep⟩ | ⟨hirq, hpc, hstep⟩ := step_inversion s
  · cases hstep.symm.trans h
    exact absurd ⟨rfl, rfl⟩ hchanged
  · cases hstep.symm.trans h
    exact absurd ⟨rfl, rfl⟩ hchanged
  · have he := effect_of_exec (hstep.symm.trans h)
    obtain hsame | ⟨hepc, hcause, hi⟩ := he.hiLo_cases
    · exact absurd hsame hchanged
    · exact ⟨hirq, hpc, hepc, hcause, he.instruction_eq ▸ hi⟩

/-! ### The map of the bus collaborator (log 3) -/

theorem Effect.busMap_eq {i : Instr} {s t : State} (h : Effect i s t) : t.busMap = s.busMap := by
  cases h
  case writeCop0 r _ _ => simp only [writeCop0_frame]
  all_goals rfl

theorem step_busMap {s t : State} (h : step s = .next t) : t.busMap = s.busMap := by
  obtain ⟨-, hstep⟩ | ⟨-, -, hstep⟩ | ⟨-, -, hstep⟩ := step_inversion s
  · cases hstep.symm.trans h
    rfl
  · cases hstep.symm.trans h
    rfl
  · exact (effect_of_exec (hstep.symm.trans h)).busMap_eq

/-! ### Who writes the coprocessor 0 registers (R30, R31) -/

/-- The number of a coprocessor 0 register (R31). -/
def Cop0Reg.number : Cop0Reg → RegIdx
  | .bpc => 3
  | .bda => 5
  | .jumpDest => 6
  | .dcic => 7
  | .badVAddr => 8
  | .bdam => 9
  | .bpcm => 11
  | .sr => 12
  | .cause => 13
  | .epc => 14
  | .prid => 15

/-- Each register has one number, and the other numbers name none (R31). -/
theorem cop0Reg?_eq_some_iff (rd : RegIdx) (r : Cop0Reg) : cop0Reg? rd = some r ↔ rd = r.number := by
  revert rd
  cases r <;> decide

/-- `pc` is one of the four vectors and the current pair of `SR` is 0: the mark of an exception entry (R303, R304). -/
abbrev AtVector (t : State) : Prop :=
  t.pc ∈ [0x80000080#32, 0xBFC00180#32, 0x80000040#32, 0xBFC00140#32] ∧ t.sr.extractLsb' 0 2 = 0#2

/-- What each coprocessor 0 register allows from `s` to `t`, when the instruction is `i` (R30, R40 to R48). -/
structure Cop0WritesBy (i : Instr) (s t : State) : Prop where
  prid : t.prid = s.prid
  bpc : t.bpc ≠ s.bpc → ∃ r, i = .mtc0 r 3
  bda : t.bda ≠ s.bda → ∃ r, i = .mtc0 r 5
  dcic : t.dcic ≠ s.dcic → ∃ r, i = .mtc0 r 7
  bdam : t.bdam ≠ s.bdam → ∃ r, i = .mtc0 r 9
  bpcm : t.bpcm ≠ s.bpcm → ∃ r, i = .mtc0 r 11
  sr : t.sr ≠ s.sr → (∃ r, i = .mtc0 r 12) ∨ i = .rfe ∨ AtVector t
  entry : t.epc ≠ s.epc ∨ t.jumpDest ≠ s.jumpDest ∨ t.badVAddr ≠ s.badVAddr ∨ t.cause.bd ≠ s.cause.bd ∨
    t.cause.excCode ≠ s.cause.excCode → AtVector t
  ip : t.cause.ip ≠ s.cause.ip → ∃ r, i = .mtc0 r 13

/-- Where no coprocessor 0 register changed, no one wrote one. -/
theorem cop0WritesBy_of_same (i : Instr) {s t : State}
    (h : (t.prid, t.bpc, t.bda, t.dcic, t.bdam, t.bpcm, t.sr, t.epc, t.jumpDest, t.badVAddr, t.cause) =
      (s.prid, s.bpc, s.bda, s.dcic, s.bdam, s.bpcm, s.sr, s.epc, s.jumpDest, s.badVAddr, s.cause)) :
    Cop0WritesBy i s t := by
  simp only [Prod.mk.injEq] at h
  constructor <;> simp [h]

/-- Every vector is one of the four (R304). -/
theorem vector_mem (c : ExcCause) (bev : Bool) :
    c.vector bev ∈ [0x80000080#32, 0xBFC00180#32, 0x80000040#32, 0xBFC00140#32] := by
  by_cases hc : c = .breakPoint
  · subst hc
    rw [vector_breakPoint]
    cases bev <;> decide
  · rw [vector_of_ne_breakPoint hc]
    cases bev <;> decide

/-- An exception entry writes `SR` and what R303 names, and goes to a vector. -/
theorem enterException_cop0WritesBy (i : Instr) (s : State) (c : ExcCause) (v n bad : Word) :
    Cop0WritesBy i s { s.enterException c v n with badVAddr := bad } where
  prid := rfl
  bpc h := absurd rfl h
  bda h := absurd rfl h
  dcic h := absurd rfl h
  bdam h := absurd rfl h
  bpcm h := absurd rfl h
  sr _ := .inr (.inr ⟨vector_mem c s.bev, pushPrivilege_current s.sr⟩)
  entry _ := ⟨vector_mem c s.bev, pushPrivilege_current s.sr⟩
  ip h := absurd rfl h

/-- `MTC0` writes the register its number names. -/
theorem writeCop0_cop0WritesBy {rt rd : RegIdx} {r : Cop0Reg} (hr : cop0Reg? rd = some r) (s : State) (v : Word) :
    Cop0WritesBy (.mtc0 rt rd) s (s.writeCop0 r v) := by
  obtain rfl := (cop0Reg?_eq_some_iff rd r).1 hr
  constructor <;> cases r <;> simp [State.writeCop0, Cop0Reg.number]

theorem Effect.cop0WritesBy {i : Instr} {s t : State} (h : Effect i s t) : Cop0WritesBy i s t := by
  cases h
  case trap c _ => exact enterException_cop0WritesBy i s c s.currentPc s.pc s.badVAddr
  case addrError c a _ => exact enterException_cop0WritesBy i s c s.currentPc s.pc a
  case writeCop0 rt rd r hi hr => exact hi ▸ writeCop0_cop0WritesBy hr s _
  case rfe hi => constructor <;> simp [hi]
  all_goals exact cop0WritesBy_of_same i rfl

/-- Over a step: P1 to P5 write no coprocessor 0 register, so the exception or the instruction did. -/
theorem step_cop0WritesBy {s t : State} (h : step s = .next t) : Cop0WritesBy (decodeWord t.instruction) s t := by
  obtain ⟨-, hstep⟩ | ⟨-, -, hstep⟩ | ⟨-, -, hstep⟩ := step_inversion s
  · cases hstep.symm.trans h
    have hw := enterException_cop0WritesBy (decodeWord s.instruction) s.beginStep .interrupt s.pc s.nextPc s.badVAddr
    exact { hw with }
  · cases hstep.symm.trans h
    have hw := enterException_cop0WritesBy (decodeWord s.instruction) s.beginStep.latchCurrentPc .loadAddrError s.pc
      s.nextPc s.pc
    exact { hw with }
  · have he := effect_of_exec (hstep.symm.trans h)
    have hw := he.cop0WritesBy
    rw [← he.instruction_eq] at hw
    exact { hw with }

end Sys2Proof.Machine

namespace Sys2Proof.Claims

open Sys2Proof.Machine

/-- Settles O9: reset has no branch latched, no load pending and no bus operation. -/
theorem invariantHoldsAtReset : Obligations.InvariantHoldsAtReset :=
  ⟨rfl, rfl, pendingInv_of_none rfl, ⟨fun _ => rfl, nofun⟩, nofun, rfl⟩

/-- Settles O10: by the inversion of a step, each part of the invariant shape by shape. -/
theorem stepKeepsTheInvariant : Obligations.StepKeepsTheInvariant := fun _ _ hs h => step_keeps_inv hs h

/-- Settles O35: the two exceptions of the dispatch leave `hi` and `lo`, and so does every other shape of an instruction. -/
theorem onlyTheMultiplyUnitWritesHiLo : Obligations.OnlyTheMultiplyUnitWritesHiLo := fun _ _ h hne => step_hiLo h hne

/-- Settles O53: an exception entry at a vector, and one write for each `MTC0` and for `RFE`. -/
theorem whoWritesTheCop0Registers : Obligations.WhoWritesTheCop0Registers := by
  intro s t h
  obtain ⟨hprid, hbpc, hbda, hdcic, hbdam, hbpcm, hsr, hentry, hip⟩ := step_cop0WritesBy h
  exact ⟨hprid, hbpc, hbda, hdcic, hbdam, hbpcm, hsr, hentry, hip⟩

/-- Settles O47: the alignment of the bus record needs nothing of the state the step starts from. -/
theorem onlyAlignedAccessesReachTheBus : Obligations.OnlyAlignedAccessesReachTheBus := by
  intro s t h op hop
  have haligned : op.aligned = true := List.all_eq_true.1 (step_busInv h) op hop
  constructor
  · intro hw
    simpa [BusOp.aligned, hw] using haligned
  · intro hw
    simpa [BusOp.aligned, hw] using haligned

end Sys2Proof.Claims
end

section
/-! PROOF. Exception entry, the traps, the return and the reset input (spec/60_exceptions.md R303, R318, spec/48_system.md,
spec/47_cop0.md R256, spec/70_reset_and_hazards.md R341). -/

namespace Sys2Proof.Machine

/-- The vector of a cause, BREAK apart from the others (R304). -/
theorem vector_eq (c : ExcCause) (bev : Bool) :
    c.vector bev = if c = .breakPoint then (if bev then 0xBFC00140#32 else 0x80000040#32)
      else if bev then 0xBFC00180#32 else 0x80000080#32 := by
  split
  · next hc => rw [hc, vector_breakPoint]
  · next hc => exact vector_of_ne_breakPoint hc bev

/-- An entry disables interrupts and goes to kernel mode (R303 step 4). -/
theorem enterException_disables (s : State) (c : ExcCause) (v n : Word) :
    (s.enterException c v n).iec = false ∧ (s.enterException c v n).kuc = false :=
  ⟨getLsbD_pushPrivilege s.sr 0, getLsbD_pushPrivilege s.sr 1⟩

/-- A pop after a push: the current and the previous pair are back, the old pair is the previous one (R318). -/
theorem popPrivilege_pushPrivilege (sr : Word) :
    (popPrivilege (pushPrivilege sr)).extractLsb' 0 4 = sr.extractLsb' 0 4 ∧
    (popPrivilege (pushPrivilege sr)).extractLsb' 4 2 = sr.extractLsb' 2 2 ∧
    (popPrivilege (pushPrivilege sr)).extractLsb' 6 26 = sr.extractLsb' 6 26 :=
  ⟨(popPrivilege_stack _ (by decide)).trans (pushPrivilege_stack sr (by decide)),
    (popPrivilege_above _ (by decide)).trans (pushPrivilege_stack sr (by decide)),
    (popPrivilege_above _ (by decide)).trans (pushPrivilege_above sr (by decide))⟩

/-- Every register is 0 after the reset input (R341). -/
theorem xpost_resetCore (s : State) (r : RegIdx) : s.resetCore.xpost r = 0#32 := by
  simp [State.xpost, State.resetCore, State.reset]

end Sys2Proof.Machine

namespace Sys2Proof.Claims

open Sys2Proof.Machine

/-- Settles O18: the general rule of exception entry, `BadVAddr` left as it is. -/
theorem exceptionEntryWritesWhatR303Says : Obligations.ExceptionEntryWritesWhatR303Says := by
  intro c victim successor s
  have h := enters_enterException s c victim successor s.badVAddr
  rwa [vector_eq, vector_eq] at h

/-- Settles O21: RFE pops what the entry pushed. -/
theorem rfeUndoesATrap : Obligations.RfeUndoesATrap := by
  intro c victim successor s
  obtain ⟨hiec, hkuc⟩ := enterException_disables s c victim successor
  exact ⟨hiec, hkuc, _, exec_rfe _, popPrivilege_pushPrivilege s.sr⟩

/-- Settles O22: SYSCALL enters with its code at the general vector. -/
theorem syscallTakesItsException : Obligations.SyscallTakesItsException :=
  fun code s => ⟨_, exec_syscall s code, enters_enterException s .syscall s.currentPc s.pc s.badVAddr⟩

/-- Settles O23: BREAK enters with its code at the debug-break vector. -/
theorem breakTakesItsExceptionAtTheDebugVector : Obligations.BreakTakesItsExceptionAtTheDebugVector :=
  fun code s => ⟨_, exec_brk s code, enters_enterException s .breakPoint s.currentPc s.pc s.badVAddr⟩

/-- Settles O52: RFE is the pop. -/
theorem rfePopsAndNothingElse : Obligations.RfePopsAndNothingElse :=
  fun s => ⟨_, exec_rfe s, rfl, popPrivilege_stack s.sr (by decide), popPrivilege_above s.sr (by decide)⟩

/-- Settles O8: the table of R341, field by field. -/
theorem resetValues : Obligations.ResetValues := by
  intro s
  refine ⟨xpost_resetCore s, ?_⟩
  exact ⟨rfl, rfl, rfl, rfl, rfl, rfl, rfl, rfl, rfl, rfl, rfl, rfl, rfl, rfl, rfl, rfl, rfl, rfl, rfl, rfl, rfl, rfl,
    rfl, fun _ => rfl, rfl, rfl, rfl⟩

end Sys2Proof.Claims
end

section
/-! PROOF. Steps that fetch a given word (spec/40_dispatch_and_delay.md R120 to R131): the bytes of a word in the two
spellings, the state phase P6 starts from, and the instruction a step executes. -/

namespace Sys2Proof.Machine

/-! ### Bytes and words (R65, R241) -/

theorem toNat_append_eq_add {m n : Nat} (x : BitVec m) (y : BitVec n) : (x ++ y).toNat = x.toNat * 2 ^ n + y.toNat := by
  rw [BitVec.toNat_append, ← Nat.shiftLeft_add_eq_or_of_lt y.isLt, Nat.shiftLeft_eq]

/-- The claims' byte of a word is the model's. -/
theorem byteOf_eq_byteOfWord (w : Word) (j : Nat) : Claims.byteOf w j = byteOfWord w j := by
  apply BitVec.eq_of_toNat_eq
  simp [Claims.byteOf, byteOfWord, Nat.shiftRight_eq_div_pow]

/-- The claims' word of four bytes is the model's. -/
theorem ofBytes_eq_wordOfBytes (b3 b2 b1 b0 : Byte) : Claims.ofBytes b3 b2 b1 b0 = wordOfBytes b0 b1 b2 b3 := by
  apply BitVec.eq_of_toNat_eq
  have h : (wordOfBytes b0 b1 b2 b3).toNat = ((b3.toNat * 2 ^ 8 + b2.toNat) * 2 ^ 8 + b1.toNat) * 2 ^ 8 + b0.toNat := by
    rw [← toNat_append_eq_add, ← toNat_append_eq_add, ← toNat_append_eq_add]
    rfl
  have := b3.isLt
  rw [h, Claims.ofBytes, BitVec.toNat_ofNat]
  omega

/-- A word is that of its bytes. -/
theorem ofBytes_byteOf (w : Word) :
    Claims.ofBytes (Claims.byteOf w 3) (Claims.byteOf w 2) (Claims.byteOf w 1) (Claims.byteOf w 0) = w := by
  simp only [ofBytes_eq_wordOfBytes, byteOf_eq_byteOfWord, wordOfBytes_byteOfWord]

/-- What the bus answers for a word whose four bytes are stored. -/
theorem wordAt_of_stored {s : State} {a : Word} {b0 b1 b2 b3 : Byte} (h0 : s.byteAt? a = some b0)
    (h1 : s.byteAt? (a + 1#32) = some b1) (h2 : s.byteAt? (a + 2#32) = some b2) (h3 : s.byteAt? (a + 3#32) = some b3) :
    s.wordAt a = Claims.ofBytes b3 b2 b1 b0 := by
  rw [State.wordAt, busByte_stored s h0, busByte_stored s h1, busByte_stored s h2, busByte_stored s h3,
    ofBytes_eq_wordOfBytes]

/-! ### The state after P1 to P5 -/

section
variable (s : State)

/-- The registers after the commit (R125). -/
theorem beginStep_gpr : s.beginStep.gpr = Claims.committed s := by
  show s.phase1.phase2.gpr = _
  rw [phase2_gpr, Claims.committed]
  cases h : s.pendingLoad <;> simp [h]

/-- P1 to P3. -/
theorem beginStep_eq : s.beginStep = { s with
    savedBranchDelayActive := s.branchDelayActive, savedBranchTaken := s.branchTaken,
    branchDelayActive := false, branchTaken := false, priorPc := s.currentPc, operandView := s.gpr,
    gpr := Claims.committed s, pendingLoad := none, extIrq := Claims.sampled s, irqFeed := s.irqFeed.tail, bus := [],
    diag := none, cop2 := none, freeCount := s.freeCount + 1 } := by
  rw [← beginStep_gpr]
  rfl

/-- P1 to P5, with the fetched word named. -/
theorem fetched_eq : s.fetched = { s with
    savedBranchDelayActive := s.branchDelayActive, savedBranchTaken := s.branchTaken,
    branchDelayActive := false, branchTaken := false, priorPc := s.currentPc, operandView := s.gpr,
    gpr := Claims.committed s, pendingLoad := none, extIrq := Claims.sampled s, irqFeed := s.irqFeed.tail,
    currentPc := s.pc, instruction := s.fetched.instruction, pc := s.nextPc, nextPc := s.nextPc + 4#32,
    bus := [⟨.read, .word, s.pc, s.fetched.instruction⟩], diag := none, cop2 := none,
    freeCount := s.freeCount + 2 } := by
  rw [← beginStep_gpr]
  rfl

/-- The instruction reads the registers of before the commit (R124). -/
@[simp] theorem x_fetched (j : RegIdx) : s.fetched.x j = s.xpost j := rfl

theorem effAddr_fetched (base : RegIdx) (offset : Half) : s.fetched.effAddr base offset = s.xpost base + sext16 offset := rfl

end

section
variable {s : State}

/-- With a load pending its register is committed, the others stay (R125). -/
theorem xpost_fetched_of_pending {p : PendingLoad} (hp : s.pendingLoad = some p) (j : RegIdx) :
    s.fetched.xpost j = if j = p.index ∧ j ≠ 0#5 then p.new else s.xpost j := by
  have h : s.fetched.xpost j = _ := xpost_beginStep s j
  simpa only [hp] using h

/-- With no load pending the registers stay. -/
theorem xpost_fetched_of_none (hp : s.pendingLoad = none) (j : RegIdx) : s.fetched.xpost j = s.xpost j := by
  have h : s.fetched.xpost j = _ := xpost_beginStep s j
  simpa only [hp] using h

/-! ### The word a step fetches -/

theorem fetched_instruction_of_stored {b0 b1 b2 b3 : Byte} (h0 : s.byteAt? s.pc = some b0)
    (h1 : s.byteAt? (s.pc + 1#32) = some b1) (h2 : s.byteAt? (s.pc + 2#32) = some b2)
    (h3 : s.byteAt? (s.pc + 3#32) = some b3) : s.fetched.instruction = Claims.ofBytes b3 b2 b1 b0 :=
  wordAt_of_stored (s := s.beginStep) h0 h1 h2 h3

theorem fetched_instruction_of_fetches {w : Word} (h : Claims.Fetches w s) : s.fetched.instruction = w := by
  have h0 := h.bytes 0 (by decide)
  rw [BitVec.add_zero] at h0
  rw [fetched_instruction_of_stored h0 (h.bytes 1 (by decide)) (h.bytes 2 (by decide)) (h.bytes 3 (by decide)),
    ofBytes_byteOf]

/-- The step of a state that fetches the word of an instruction executes the instruction (R120). -/
theorem step_of_encode {i : Instr} (hi : i.wellFormed = true) (h : Claims.Fetches (encode i) s) :
    step s = exec i s.fetched := by
  rw [step_of_fetches h.noInterrupt h.aligned, fetched_instruction_of_fetches h, decodeWord_encode i hi]

/-- With interrupts disabled none is due (R311). -/
theorem not_interruptDue_of_iec (h : s.iec = false) : ¬ Claims.InterruptDue s :=
  fun hdue => Bool.false_ne_true (h.symm.trans hdue.1)

end

end Sys2Proof.Machine

namespace Sys2Proof.Claims

open Sys2Proof.Machine

/-- Settles O11: the fields of the state after P5, one by one, and the word the four bytes make. -/
theorem stepRunsTheDecodedInstruction : Obligations.StepRunsTheDecodedInstruction := by
  intro s b0 b1 b2 b3 i hirq hpc h0 h1 h2 h3 hi
  have hw : s.fetched.instruction = ofBytes b3 b2 b1 b0 := fetched_instruction_of_stored h0 h1 h2 h3
  have hdecode : decodeWord (ofBytes b3 b2 b1 b0) = i := by
    rw [decode, Except.ok.injEq, Prod.mk.injEq] at hi
    rw [ofBytes_eq_wordOfBytes, hi.1]
  rw [step_of_fetches hirq hpc, hw, hdecode, fetched_eq, hw]

/-- Settles O16: the interrupt is entered from the state after the sampling, and nothing is fetched. -/
theorem interruptIsTakenBeforeTheFetch : Obligations.InterruptIsTakenBeforeTheFetch := by
  intro s hdue
  obtain ⟨-, hstep⟩ | ⟨hirq, -⟩ | ⟨hirq, -⟩ := step_inversion s
  · refine ⟨_, hstep, ?_⟩
    rw [← beginStep_eq]
    exact enters_enterException s.beginStep .interrupt s.pc s.nextPc s.badVAddr
  · exact absurd hdue hirq
  · exact absurd hdue hirq

/-- The state after the sampling with `current_pc` latched (R24). -/
theorem latchCurrentPc_beginStep_eq (s : State) : s.beginStep.latchCurrentPc = { s with
    savedBranchDelayActive := s.branchDelayActive, savedBranchTaken := s.branchTaken,
    branchDelayActive := false, branchTaken := false, priorPc := s.currentPc, operandView := s.gpr,
    gpr := committed s, pendingLoad := none, extIrq := sampled s, irqFeed := s.irqFeed.tail, currentPc := s.pc,
    bus := [], diag := none, cop2 := none, freeCount := s.freeCount + 1 } := by
  rw [← beginStep_gpr]
  rfl

/-- Settles O17: the address error is entered from the state after P4, and nothing is fetched. -/
theorem misalignedFetchRaisesLoadAddrError : Obligations.MisalignedFetchRaisesLoadAddrError := by
  intro s hirq hpc
  obtain ⟨hdue, -⟩ | ⟨-, -, hstep⟩ | ⟨-, halign, -⟩ := step_inversion s
  · exact absurd hdue hirq
  · refine ⟨_, hstep, ?_⟩
    rw [← latchCurrentPc_beginStep_eq]
    exact enters_enterException s.beginStep.latchCurrentPc .loadAddrError s.pc s.nextPc s.pc
  · exact absurd halign hpc

end Sys2Proof.Claims
end

section
/-! PROOF. The load delay (spec/40_dispatch_and_delay.md R124 to R131): which register an instruction writes and which it
stages, a reader in the step after a load, and a load with two readers. -/

namespace Sys2Proof.Machine

/-! ### Which register an instruction writes, and which it stages (R21, R125) -/

/-- A register that is not written stays. -/
theorem xpost_writeGpr_of_ne (s : State) {i j : RegIdx} (h : j ≠ i) (v : Word) : (s.writeGpr i v).xpost j = s.xpost j := by
  rw [xpost_writeGpr, if_neg fun hj => h hj.1]

/-- From `s` to `t` no register but the destination of `i` changes, and a load that is pending was pending before or is staged
by `i` for its register. -/
structure KeepsOtherRegisters (i : Instr) (s t : State) : Prop where
  registers : ∀ q, Claims.destination i ≠ some q → t.xpost q = s.xpost q
  pending : t.pendingLoad = s.pendingLoad ∨ ∃ p, t.pendingLoad = some p ∧ Claims.stagedRegister i = some p.index

section
variable {i : Instr} {s t : State}

theorem keeps_of_same (hgpr : t.gpr = s.gpr) (hpending : t.pendingLoad = s.pendingLoad) : KeepsOtherRegisters i s t :=
  ⟨fun q _ => xpost_congr hgpr q, .inl hpending⟩

theorem keeps_writeGpr {r : RegIdx} (hr : Claims.destination i = some r) (v : Word) :
    KeepsOtherRegisters i s (s.writeGpr r v) :=
  ⟨fun _ hq => xpost_writeGpr_of_ne s (fun h => hq (by rw [h, hr])) v, .inl rfl⟩

theorem keeps_link {r : RegIdx} (hr : Claims.destination i = some r) (v target : Word) (taken : Bool) :
    KeepsOtherRegisters i s ((s.writeGpr r v).branchTo taken target) :=
  ⟨(keeps_writeGpr hr v).registers, .inl rfl⟩

theorem keeps_of_staged {p : PendingLoad} (hgpr : t.gpr = s.gpr) (hp : t.pendingLoad = some p)
    (hi : Claims.stagedRegister i = some p.index) : KeepsOtherRegisters i s t :=
  ⟨fun q _ => xpost_congr hgpr q, .inr ⟨p, hp, hi⟩⟩

theorem keeps_loadHalf {rt : RegIdx} (hr : Claims.stagedRegister i = some rt) (ext : Half → Word) (a : Word) :
    KeepsOtherRegisters i s (s.loadHalf ext rt a) := by
  obtain ⟨-, h⟩ | ⟨-, h⟩ := loadHalf_cases s ext rt a
  · exact h ▸ keeps_of_same rfl rfl
  · exact h ▸ keeps_of_staged rfl rfl hr

theorem keeps_loadWord {rt : RegIdx} (hr : Claims.stagedRegister i = some rt) (a : Word) :
    KeepsOtherRegisters i s (s.loadWord rt a) := by
  obtain ⟨-, h⟩ | ⟨-, h⟩ := loadWord_cases s rt a
  · exact h ▸ keeps_of_same rfl rfl
  · exact h ▸ keeps_of_staged rfl rfl hr

theorem keeps_storeHalf (a v : Word) : KeepsOtherRegisters i s (s.storeHalf a v) := by
  obtain ⟨-, h⟩ | ⟨-, h⟩ := storeHalf_cases s a v
  · exact h ▸ keeps_of_same rfl rfl
  · exact h ▸ keeps_of_same rfl rfl

theorem keeps_storeWord (a v : Word) : KeepsOtherRegisters i s (s.storeWord a v) := by
  obtain ⟨-, h⟩ | ⟨-, h⟩ := storeWord_cases s a v
  · exact h ▸ keeps_of_same rfl rfl
  · exact h ▸ keeps_of_same rfl rfl

end

/-- Every instruction, by its constructor. -/
theorem exec_keepsOtherRegisters (i : Instr) (s : State) : ∃ t, exec i s = .next t ∧ KeepsOtherRegisters i s t := by
  cases i
  case add rd rs rt =>
    rw [exec_add]
    split
    · exact ⟨_, rfl, keeps_of_same rfl rfl⟩
    · exact ⟨_, rfl, keeps_writeGpr rfl _⟩
  case sub rd rs rt =>
    rw [exec_sub]
    split
    · exact ⟨_, rfl, keeps_of_same rfl rfl⟩
    · exact ⟨_, rfl, keeps_writeGpr rfl _⟩
  case addi rt rs imm =>
    rw [exec_addi]
    split
    · exact ⟨_, rfl, keeps_of_same rfl rfl⟩
    · exact ⟨_, rfl, keeps_writeGpr rfl _⟩
  case mfc0 rt rd =>
    simp only [exec, execMfc0]
    split
    · exact ⟨_, rfl, keeps_of_staged rfl rfl rfl⟩
    · exact ⟨_, rfl, keeps_of_same rfl rfl⟩
  case mtc0 rt rd =>
    simp only [exec, execMtc0]
    split
    · exact ⟨_, rfl, keeps_of_same (by simp only [writeCop0_frame]) (by simp only [writeCop0_frame])⟩
    · exact ⟨_, rfl, keeps_of_same rfl rfl⟩
  case jal | jalr | bltzal | bgezal => exact ⟨_, rfl, keeps_link rfl _ _ _⟩
  case lb | lbu | lwl | lwr => exact ⟨_, rfl, keeps_of_staged rfl rfl rfl⟩
  case lh | lhu => exact ⟨_, rfl, keeps_loadHalf rfl _ _⟩
  case lw => exact ⟨_, rfl, keeps_loadWord rfl _⟩
  case sh => exact ⟨_, rfl, keeps_storeHalf _ _⟩
  case sw => exact ⟨_, rfl, keeps_storeWord _ _⟩
  case sll | srl | sra | sllv | srlv | srav | mfhi | mflo | addu | subu | and | or | xor | nor | slt | sltu | addiu | slti
      | sltiu | andi | ori | xori | lui =>
    exact ⟨_, rfl, keeps_writeGpr rfl _⟩
  all_goals exact ⟨_, rfl, keeps_of_same rfl rfl⟩

theorem keepsOtherRegisters_of_exec {i : Instr} {s t : State} (h : exec i s = .next t) : KeepsOtherRegisters i s t := by
  obtain ⟨u, hu, hk⟩ := exec_keepsOtherRegisters i s
  cases hu.symm.trans h
  exact hk

/-! ### Consecutive steps -/

/-- The step from `s` to `t` went on to `next_pc` and left memory, the map and `SR` alone. -/
structure GoesOn (s t : State) : Prop where
  pc : t.pc = s.nextPc
  sr : t.sr = s.sr
  mem : t.mem = s.mem
  busMap : t.busMap = s.busMap

section
variable {s t : State}

theorem GoesOn.byteAt? (h : GoesOn s t) (a : Word) : t.byteAt? a = s.byteAt? a := by
  rw [State.byteAt?, storageAt_congr h.busMap, h.mem]
  rfl

theorem GoesOn.iec (h : GoesOn s t) : t.iec = s.iec := by
  rw [State.iec, h.sr]
  rfl

/-- With interrupts disabled, the next step fetches what is stored behind `next_pc`. -/
theorem fetches_of_goesOn {w : Word} (h : GoesOn s t) (hiec : s.iec = false) (ha : s.nextPc.toNat % 4 = 0)
    (hw : ∀ j < 4, s.byteAt? (s.nextPc + BitVec.ofNat 32 j) = some (Claims.byteOf w j)) : Claims.Fetches w t where
  noInterrupt := not_interruptDue_of_iec (h.iec.trans hiec)
  aligned := h.pc ▸ ha
  bytes j hj := by rw [h.pc, h.byteAt?, hw j hj]

theorem ofNat_add_toNat (a b : Word) : BitVec.ofNat 32 (a.toNat + b.toNat) = a + b := by
  rw [BitVec.ofNat_add, BitVec.ofNat_toNat, BitVec.ofNat_toNat, BitVec.setWidth_eq, BitVec.setWidth_eq]

/-! ### A load, and a reader (R124, R126) -/

theorem step_addu {rd rs rt : RegIdx} (h : Claims.Fetches (encode (.addu rd rs rt)) s) :
    step s = .next (s.fetched.writeGpr rd (s.xpost rs + s.xpost rt)) := step_of_encode rfl h

/-- ADDU with register 0 copies a register, as it was before the commit, over what the commit left. -/
theorem step_copy {rd rs : RegIdx} (hrd : rd ≠ 0#5) (h : Claims.Fetches (encode (.addu rd rs 0)) s) :
    ∃ t, step s = .next t ∧ GoesOn s t ∧ t.nextPc = s.nextPc + 4#32 ∧ t.pendingLoad = none ∧ t.xpost rd = s.xpost rs ∧
      ∀ q, q ≠ rd → t.xpost q = s.fetched.xpost q := by
  refine ⟨_, step_addu h, ⟨rfl, rfl, rfl, rfl⟩, rfl, rfl, ?_, fun q hq => xpost_writeGpr_of_ne _ hq _⟩
  rw [xpost_writeGpr_of_ne_zero _ hrd, if_pos rfl]
  simp

/-- LW of four stored bytes, at a multiple of 4, stages the word they are. -/
theorem step_lw_of_stored {rt base : RegIdx} {offset : Half} {b0 b1 b2 b3 : Byte}
    (h : Claims.Fetches (encode (.lw rt offset base)) s) (hpending : s.pendingLoad = none)
    (ha : (s.xpost base + sext16 offset).toNat % 4 = 0) (h0 : s.byteAt? (s.xpost base + sext16 offset) = some b0)
    (h1 : s.byteAt? (s.xpost base + sext16 offset + 1#32) = some b1)
    (h2 : s.byteAt? (s.xpost base + sext16 offset + 2#32) = some b2)
    (h3 : s.byteAt? (s.xpost base + sext16 offset + 3#32) = some b3) :
    ∃ t, step s = .next t ∧ GoesOn s t ∧ t.nextPc = s.nextPc + 4#32 ∧
      t.pendingLoad = some ⟨rt, s.xpost rt, Claims.ofBytes b3 b2 b1 b0⟩ ∧ ∀ q, t.xpost q = s.xpost q := by
  have hexec : step s = .next (s.fetched.loadWord rt (s.xpost base + sext16 offset)) := step_of_encode rfl h
  rw [loadWord_of_aligned _ _ ha, wordAt_of_stored (s := s.fetched) h0 h1 h2 h3] at hexec
  refine ⟨_, hexec, ⟨rfl, rfl, rfl, rfl⟩, rfl, ?_, xpost_fetched_of_none hpending⟩
  rw [← xpost_fetched_of_none hpending rt]
  rfl

end

end Sys2Proof.Machine

namespace Sys2Proof.Claims

open Sys2Proof.Machine

/-- Settles O13: ADDU reads the registers of before the commit and writes over what the commit left. -/
theorem loadDelayShowsTheOldValue : Obligations.LoadDelayShowsTheOldValue := by
  intro s p rd rs rt hp hf
  refine ⟨_, step_addu hf, rfl, fun hrd => ?result, fun hp0 hne => ?loaded, fun q hrd hq => ?others⟩
  case result => rw [xpost_writeGpr_of_ne_zero _ hrd, if_pos rfl, ofNat_add_toNat]
  case loaded => rw [xpost_writeGpr_of_ne _ hne, xpost_fetched_of_pending hp, if_pos ⟨rfl, hp0⟩]
  case others => rw [xpost_writeGpr_of_ne _ hrd, xpost_fetched_of_pending hp, if_neg fun h => hq h.1]

/-- Settles O14: LW stages, the first reader commits and reads the old value, the second reads the loaded one. -/
theorem loadThenReaderTimeline : Obligations.LoadThenReaderTimeline := by
  intro s r a b base offset b0 b1 b2 b3 hr ha hb hra hrb hab hpending hiec hnext hload hw1 hw2 halign h0 h1 h2 h3
  have hpc := hload.aligned
  have hnext8 : s.nextPc + 4#32 = s.pc + 8#32 := by rw [hnext, BitVec.add_assoc]; rfl
  obtain ⟨t1, hstep1, hgo1, hnext1, hp1, hx1⟩ := step_lw_of_stored hload hpending halign h0 h1 h2 h3
  have hfetch1 : Fetches (encode (.addu a r 0)) t1 := fetches_of_goesOn hgo1 hiec (by bv_omega) (hnext ▸ hw1)
  obtain ⟨t2, hstep2, hgo2, hnext2, hp2, ha2, hx2⟩ := step_copy ha hfetch1
  have hfetch2 : Fetches (encode (.addu b r 0)) t2 :=
    fetches_of_goesOn hgo2 (hgo1.iec.trans hiec) (by rw [hnext1, hnext8]; bv_omega) fun j hj => by
      rw [hnext1, hnext8, hgo1.byteAt?, hw2 j hj]
  obtain ⟨t3, hstep3, -, -, hp3, hb3, hx3⟩ := step_copy hb hfetch2
  have hr2 : t2.xpost r = ofBytes b3 b2 b1 b0 := by
    rw [hx2 r hra, xpost_fetched_of_pending hp1, if_pos ⟨rfl, hr⟩]
  refine ⟨t3, ?_, ?_, hb3.trans hr2, ?_, hp3⟩
  · rw [core_run_next 2 hstep1, core_run_next 1 hstep2, core_run_next 0 hstep3]
    rfl
  · rw [hx3 a hab, xpost_fetched_of_none hp2, ha2, hx1]
  · rw [hx3 r hrb, xpost_fetched_of_none hp2, hr2]

/-- Settles O15: every step commits first; what it does after the commit writes or stages its own register only. -/
theorem stagedLoadIsNeverCancelled : Obligations.StagedLoadIsNeverCancelled := by
  refine ⟨fun s t p hp hp0 h => ?_, fun s t h => ?_⟩
  · have hcommit : s.fetched.xpost p.index = p.new := by
      rw [xpost_fetched_of_pending hp, if_pos ⟨rfl, hp0⟩]
    obtain ⟨-, hstep⟩ | ⟨-, -, hstep⟩ | ⟨hirq, hpc, hstep⟩ := step_inversion s
    · cases hstep.symm.trans h
      exact .inl hcommit
    · cases hstep.symm.trans h
      exact .inl hcommit
    · have hexec := hstep.symm.trans h
      rw [(effect_of_exec hexec).instruction_eq]
      by_cases hd : destination (decodeWord s.fetched.instruction) = some p.index
      · exact .inr ⟨hirq, hpc, hd⟩
      · exact .inl (((keepsOtherRegisters_of_exec hexec).registers p.index hd).trans hcommit)
  · obtain ⟨-, hstep⟩ | ⟨-, -, hstep⟩ | ⟨hirq, hpc, hstep⟩ := step_inversion s
    · cases hstep.symm.trans h
      exact .inl rfl
    · cases hstep.symm.trans h
      exact .inl rfl
    · have hexec := hstep.symm.trans h
      rw [(effect_of_exec hexec).instruction_eq]
      obtain hnone | hstaged := (keepsOtherRegisters_of_exec hexec).pending
      · exact .inl hnone
      · exact .inr ⟨hirq, hpc, hstaged⟩

end Sys2Proof.Claims
end

section
/-! PROOF. Branches, jumps and their delay slots (spec/44_branch_jump.md, spec/60_exceptions.md R303): what each of the twelve
writes, a branch and its slot as two steps, and every exception of an instruction in a slot. -/

namespace Sys2Proof.Machine

/-! ### Targets and conditions in the terms of the claims (R200, R211 to R216) -/

theorem ofInt_toInt_sext16 (v : Half) : BitVec.ofInt 32 v.toInt = sext16 v := rfl

theorem branchTarget_eq (s : State) (offset : Half) : s.branchTarget offset = Claims.branchTo s offset := by
  have hshift : sext16 offset <<< 2 = 4#32 * sext16 offset := by bv_omega
  rw [Claims.branchTo, BitVec.ofInt_add, BitVec.ofInt_add, BitVec.ofInt_mul, ofInt_toInt_sext16, State.branchTarget, hshift]
  simp

theorem jumpTarget_eq (s : State) (target : BitVec 26) : s.jumpTarget target = Claims.jumpTo s target := by
  rw [State.jumpTarget, Claims.jumpTo]
  apply BitVec.eq_of_getLsbD_eq
  intro i hi
  simp only [BitVec.getLsbD_append]
  interval_cases i <;> simp

section
variable (v : Word)

theorem isLtz_eq : isLtz v = decide (v.toInt < 0) := BitVec.msb_eq_toInt

theorem isLez_eq : isLez v = decide (v.toInt ≤ 0) := by
  have hzero : v = 0#32 ↔ v.toInt = 0 := by
    rw [← BitVec.toInt_inj]
    rfl
  rw [isLez, BitVec.msb_eq_toInt, beq_eq_decide, ← Bool.decide_or, decide_eq_decide, hzero]
  omega

theorem isGez_eq : isGez v = decide (0 ≤ v.toInt) := by
  rw [isGez, BitVec.msb_eq_toInt, ← decide_not, decide_eq_decide, Int.not_lt]

theorem isGtz_eq : isGtz v = decide (0 < v.toInt) := by
  have h : isGtz v = !isLez v := (Bool.not_or _ _).symm
  rw [h, isLez_eq, ← decide_not, decide_eq_decide, Int.not_le]

end

/-! ### What the twelve write (R201) -/

section
variable (s : State)

/-- A branch without a link is what the claims say of it. -/
theorem branches_branchTo (taken : Bool) (target : Word) :
    Claims.Branches taken target none s (s.branchTo taken target) where
  active := rfl
  taken := rfl
  next := rfl
  pc := rfl
  registers _ := rfl
  memory _ := rfl
  rest := rfl

/-- A branch with a link writes the link register, taken or not (R200d, R203). -/
theorem branches_link (taken : Bool) (target : Word) (r : RegIdx) :
    Claims.Branches taken target (some r) s ((s.writeGpr r s.linkValue).branchTo taken target) where
  active := rfl
  taken := rfl
  next := rfl
  pc := rfl
  registers q :=
    (xpost_writeGpr s r q s.linkValue).trans
      (if_congr (and_congr_left' (by rw [Option.some_inj, eq_comm])) rfl rfl)
  memory _ := rfl
  rest := rfl

end

/-! ### A branch and the step after it (R122) -/

section
variable {s t : State}

/-- BNE goes on to its delay slot, and its target or the address after the slot is latched. -/
theorem step_bne {rs rt : RegIdx} {offset : Half} (h : Claims.Fetches (encode (.bne rs rt offset)) s) :
    ∃ t, step s = .next t ∧ GoesOn s t ∧ t.branchDelayActive = true ∧
      t.branchTaken = decide (s.xpost rs ≠ s.xpost rt) ∧
      t.nextPc = if s.xpost rs ≠ s.xpost rt then BitVec.ofInt 32 (s.pc.toNat + 4 + 4 * offset.toInt)
        else s.nextPc + 4#32 := by
  have hexec : step s = .next (s.fetched.branchTo (s.xpost rs != s.xpost rt) (s.fetched.branchTarget offset)) :=
    step_of_encode rfl h
  rw [branchTarget_eq] at hexec
  refine ⟨_, hexec, ⟨rfl, rfl, rfl, rfl⟩, rfl, decide_not.symm, ?_⟩
  rw [branchTo_nextPc]
  exact if_congr bne_iff_ne rfl rfl

/-- A step that leaves a delay slot behind it executed the branch at its `pc` and went on to the slot (R27). -/
theorem step_of_active (h : step s = .next t) (hactive : t.branchDelayActive = true) :
    t.currentPc = s.pc ∧ t.pc = s.nextPc := by
  obtain ⟨-, hstep⟩ | ⟨-, -, hstep⟩ | ⟨-, -, hstep⟩ := step_inversion s
  · cases hstep.symm.trans h
    exact absurd hactive Bool.false_ne_true
  · cases hstep.symm.trans h
    exact absurd hactive Bool.false_ne_true
  · have he := effect_of_exec (hstep.symm.trans h)
    cases he
    case branch | branchLink => exact ⟨rfl, rfl⟩
    case writeCop0 =>
      simp only [writeCop0_frame] at hactive
      exact absurd hactive Bool.false_ne_true
    all_goals exact absurd hactive Bool.false_ne_true

end

/-! ### `CAUSE` field by field (R45, R46) -/

theorem causeWord_fields (s : State) :
    s.causeWord.extractLsb' 2 5 = s.cause.excCode ∧ s.causeWord.extractLsb' 8 2 = s.cause.ip ∧
    s.causeWord.extractLsb' 10 6 = s.extIrq ∧ s.causeWord.getLsbD 31 = s.cause.bd ∧
    s.causeWord &&& 0x7FFF0083#32 = 0#32 := by
  refine ⟨?_, ?_, ?_, getLsbD_causeWord s (by decide), ?_⟩
  · apply BitVec.eq_of_getLsbD_eq
    intro i hi
    rw [BitVec.getLsbD_extractLsb', getLsbD_causeWord s (by omega)]
    interval_cases i <;> simp
  · apply BitVec.eq_of_getLsbD_eq
    intro i hi
    rw [BitVec.getLsbD_extractLsb', getLsbD_causeWord s (by omega)]
    interval_cases i <;> simp
  · apply BitVec.eq_of_getLsbD_eq
    intro i hi
    rw [BitVec.getLsbD_extractLsb', getLsbD_causeWord s (by omega)]
    interval_cases i <;> simp
  · apply BitVec.eq_of_getLsbD_eq
    intro i hi
    rw [BitVec.getLsbD_and, getLsbD_causeWord s hi]
    interval_cases i <;> simp

/-! ### Exceptions in a delay slot (R204, R303) -/

/-- The state an exception of the step of `s` is entered from: the pair has moved, the pending load is committed, memory is as
before (R121, R125). -/
structure AfterCommit (s u : State) : Prop where
  saved : u.savedBranchDelayActive = s.branchDelayActive
  prior : u.priorPc = s.currentPc
  gpr : u.gpr = Claims.committed s
  pending : u.pendingLoad = none
  mem : u.mem = s.mem
  bev : u.bev = s.bev

theorem afterCommit_beginStep (s : State) : AfterCommit s s.beginStep := ⟨rfl, rfl, beginStep_gpr s, rfl, rfl, rfl⟩

theorem afterCommit_latchCurrentPc (s : State) : AfterCommit s s.beginStep.latchCurrentPc :=
  ⟨rfl, rfl, beginStep_gpr s, rfl, rfl, rfl⟩

theorem afterCommit_fetched (s : State) : AfterCommit s s.fetched := ⟨rfl, rfl, beginStep_gpr s, rfl, rfl, rfl⟩

/-- Every exception of a step whose instruction stands in a slot: victim `pc`, successor `next_pc`. -/
theorem entersInSlot_enterException {s u : State} (hs : s.branchDelayActive = true) (hu : AfterCommit s u) (c : ExcCause)
    (bad : Word) :
    Claims.EntersInSlot c.code (c.vector false) (c.vector true) bad s
      { u.enterException c s.pc s.nextPc with badVAddr := bad } := by
  obtain ⟨hsaved, hprior, hgpr, hpending, hmem, hbev⟩ := hu
  have hslot := hsaved.trans hs
  have hepc : (u.enterException c s.pc s.nextPc).epc = u.slotEpc s.pc := if_pos hslot
  exact {
    epc := by rw [hepc, slotEpc_eq, hprior]
    slotFollows := fun h => by
      have hfollows := slotEpc_of_follows u s.pc (hprior ▸ h)
      rw [hprior] at hfollows
      rwa [hepc]
    branchDelay := (causeWord_fields _).2.2.2.1.trans hslot
    excCode := (causeWord_fields _).1
    jumpDest := if_pos hslot
    pc := by
      rw [enterException_pc, hbev]
      cases s.bev <;> rfl
    nextPc := rfl
    bad := rfl
    registers := hgpr
    noPending := hpending
    memory := fun _ => by rw [enterException_mem, hmem] }

end Sys2Proof.Machine

namespace Sys2Proof.Claims

open Sys2Proof.Machine

/-- Settles O36: each of the twelve is a branch to its target under its condition, four with a link. -/
theorem branchesAndJumpsWriteTheDelayPairAndNextPc : Obligations.BranchesAndJumpsWriteTheDelayPairAndNextPc := by
  intro rs rt rd offset target s
  rw [← jumpTarget_eq, ← branchTarget_eq, ← isLez_eq, ← isGtz_eq, ← isLtz_eq, ← isGez_eq]
  have hbeq : decide (s.x rs = s.x rt) = (s.x rs == s.x rt) := rfl
  have hbne : decide (s.x rs ≠ s.x rt) = (s.x rs != s.x rt) := decide_not
  rw [hbeq, hbne]
  exact ⟨⟨_, rfl, branches_branchTo s _ _⟩, ⟨_, rfl, branches_link s _ _ _⟩, ⟨_, rfl, branches_branchTo s _ _⟩,
    ⟨_, rfl, branches_link s _ _ _⟩, ⟨_, rfl, branches_branchTo s _ _⟩, ⟨_, rfl, branches_branchTo s _ _⟩,
    ⟨_, rfl, branches_branchTo s _ _⟩, ⟨_, rfl, branches_branchTo s _ _⟩, ⟨_, rfl, branches_branchTo s _ _⟩,
    ⟨_, rfl, branches_branchTo s _ _⟩, ⟨_, rfl, branches_link s _ _ _⟩, ⟨_, rfl, branches_link s _ _ _⟩⟩

/-- Settles O37: BNE latches, its slot executes ADDIU and control goes to what was latched. -/
theorem delaySlotExecutesBeforeTheTarget : Obligations.DelaySlotExecutesBeforeTheTarget := by
  intro s rs rt r offset imm hpending hiec hnext hbne hslot
  have hpc := hbne.aligned
  obtain ⟨t, hstep, hgo, hactive, htaken, htarget⟩ := step_bne hbne
  have hfetch : Fetches (encode (.addiu r 0 imm)) t := fetches_of_goesOn hgo hiec (by bv_omega) (hnext ▸ hslot)
  have hstep2 : step t = .next (t.fetched.writeGpr r (t.xpost 0 + sext16 imm)) := step_of_encode rfl hfetch
  refine ⟨t, _, hstep, hstep2, hgo.pc.trans hnext, hactive, fun hr => ?_, hactive, rfl, htaken, htarget.trans ?_⟩
  · rw [xpost_writeGpr_of_ne_zero _ hr, if_pos rfl, ofInt_toInt_sext16]
    simp
  · rw [hnext, BitVec.add_assoc]
    rfl

/-- Settles O24: each exception of the step is an entry with victim `pc` and successor `next_pc`, from a state after the
commit. -/
theorem exceptionInADelaySlotPointsAtTheBranch : Obligations.ExceptionInADelaySlotPointsAtTheBranch := by
  intro s hs
  have hraise := fun c bad => entersInSlot_enterException hs (afterCommit_fetched s) c bad
  refine ⟨fun hdue => ?interrupt, fun hirq hpc => ?fetch, fun code hf => ?syscall, fun code hf => ?brk,
    fun rd rs rt hf hfit => ?add, fun rd rs rt hf hfit => ?sub, fun rt rs imm hf hfit => ?addi,
    fun rt base offset i hf hi => ?load, fun rt base offset i hf hi => ?store⟩
  case interrupt =>
    obtain ⟨-, hstep⟩ | ⟨hirq, -⟩ | ⟨hirq, -⟩ := step_inversion s
    · exact ⟨_, hstep, entersInSlot_enterException hs (afterCommit_beginStep s) .interrupt s.badVAddr⟩
    · exact absurd hdue hirq
    · exact absurd hdue hirq
  case fetch =>
    obtain ⟨hdue, -⟩ | ⟨-, -, hstep⟩ | ⟨-, halign, -⟩ := step_inversion s
    · exact absurd hdue hirq
    · exact ⟨_, hstep, entersInSlot_enterException hs (afterCommit_latchCurrentPc s) .loadAddrError s.pc⟩
    · exact absurd halign hpc
  case syscall => exact ⟨_, step_of_encode rfl hf, hraise .syscall s.badVAddr⟩
  case brk => exact ⟨_, step_of_encode rfl hf, hraise .breakPoint s.badVAddr⟩
  case add =>
    rw [step_of_encode rfl hf, exec_add, x_fetched, x_fetched, if_pos ((addOverflows_iff_not_fits _ _).2 hfit)]
    exact ⟨_, rfl, hraise .overflow s.badVAddr⟩
  case sub =>
    rw [step_of_encode rfl hf, exec_sub, x_fetched, x_fetched, if_pos ((subOverflows_iff_not_fits _ _).2 hfit)]
    exact ⟨_, rfl, hraise .overflow s.badVAddr⟩
  case addi =>
    rw [← toInt_sext16] at hfit
    rw [step_of_encode rfl hf, exec_addi, x_fetched, if_pos ((addOverflows_iff_not_fits _ _).2 hfit)]
    exact ⟨_, rfl, hraise .overflow s.badVAddr⟩
  case load =>
    obtain ⟨rfl | rfl, ha⟩ | ⟨rfl, ha⟩ := hi
    · rw [step_of_encode rfl hf, exec_lh, effAddr_fetched, loadHalf_of_odd _ _ _ ha]
      exact ⟨_, rfl, hraise .loadAddrError _⟩
    · rw [step_of_encode rfl hf, exec_lhu, effAddr_fetched, loadHalf_of_odd _ _ _ ha]
      exact ⟨_, rfl, hraise .loadAddrError _⟩
    · rw [step_of_encode rfl hf, exec_lw, effAddr_fetched, loadWord_of_misaligned _ _ ha]
      exact ⟨_, rfl, hraise .loadAddrError _⟩
  case store =>
    obtain ⟨rfl, ha⟩ | ⟨rfl, ha⟩ := hi
    · rw [step_of_encode rfl hf, exec_sh, effAddr_fetched, storeHalf_of_odd _ _ ha]
      exact ⟨_, rfl, hraise .writeAddrError _⟩
    · rw [step_of_encode rfl hf, exec_sw, effAddr_fetched, storeWord_of_misaligned _ _ ha]
      exact ⟨_, rfl, hraise .writeAddrError _⟩

/-- The three exceptions O57 speaks of are entries in a slot. -/
theorem entersInSlot_of_exception {t u : State} (hactive : t.branchDelayActive = true)
    (hexc : InterruptDue t ∨ t.pc.toNat % 4 ≠ 0 ∨ ∃ code, Fetches (encode (.syscall code)) t) (h : step t = .next u) :
    ∃ code normal boot bad, EntersInSlot code normal boot bad t u := by
  obtain ⟨hinterrupt, hfetch, hsyscall, -⟩ := exceptionInADelaySlotPointsAtTheBranch t hactive
  by_cases hdue : InterruptDue t
  · obtain ⟨v, hv, hslot⟩ := hinterrupt hdue
    cases hv.symm.trans h
    exact ⟨_, _, _, _, hslot⟩
  · obtain hdue' | hpc | ⟨code, hf⟩ := hexc
    · exact absurd hdue' hdue
    · obtain ⟨v, hv, hslot⟩ := hfetch hdue hpc
      cases hv.symm.trans h
      exact ⟨_, _, _, _, hslot⟩
    · obtain ⟨v, hv, hslot⟩ := hsyscall code hf
      cases hv.symm.trans h
      exact ⟨_, _, _, _, hslot⟩

/-- Settles O57: the step of the branch leaves its address in `current_pc`, and the entry in the slot reads it there. -/
theorem epcWhenABranchStoodInADelaySlotItself : Obligations.EpcWhenABranchStoodInADelaySlotItself := by
  intro s t u h hactive hexc hu
  obtain ⟨hcurrent, hpc⟩ := step_of_active h hactive
  obtain ⟨code, normal, boot, bad, hslot⟩ := entersInSlot_of_exception hactive hexc hu
  have hfollows : s.nextPc = s.pc + 4#32 → u.epc = s.pc ∧ u.epc = t.pc - 4#32 := fun hnext => by
    rw [← hcurrent]
    exact hslot.slotFollows (by rw [hpc, hnext, hcurrent])
  refine ⟨hcurrent ▸ hslot.epc, hslot.jumpDest, hslot.branchDelay, hfollows, fun hinv htaken => hfollows ?_⟩
  obtain ⟨-, -, -, ⟨hnext, -⟩, -⟩ := hinv
  exact hnext htaken

/-- Settles O56: the decoder gives back the word, and its execution drives the diagnostic output of a state whose registers
are those of before. -/
theorem unimplementedStepIsADiagnosticNop : Obligations.UnimplementedStepIsADiagnosticNop := by
  refine ⟨fun w s => ⟨_, exec_unimplemented w s, pulseDiag_onlyOutputs s⟩, fun w s hw hpending hf => ?_⟩
  have hword : s.fetched.instruction = w := fetched_instruction_of_fetches hf
  have hgpr : s.fetched.gpr = s.gpr := by
    rw [(afterCommit_fetched s).gpr, committed, hpending]
  have hstep : step s = .next s.fetched.pulseDiag := step_of_encode (i := .unimplemented w) hw hf
  refine ⟨_, hstep, ?_, rfl, rfl, rfl, rfl, hword, rfl, rfl, rfl, xpost_fetched_of_none hpending, fun _ => rfl, ?_⟩
  · rw [pulseDiag_diag, hword]
    rfl
  · rw [← hgpr, hpending]
    rfl

end Sys2Proof.Claims
end

section
/-! PROOF. Arithmetic, logic, comparison, shifts, multiply and divide (spec/41_alu_arith_logic.md, spec/42_shift.md,
spec/43_muldiv.md): the results in the terms of the claims, as integers and bits. -/

namespace Sys2Proof.Machine

/-! ### Results as integers (R142 to R158, R170 to R176) -/

section
variable (a b : Word) (imm : Half) (n : Nat)

theorem ofInt_toNat_sub : BitVec.ofInt 32 (a.toNat - b.toNat : Int) = a - b := by
  apply BitVec.eq_of_toInt_eq
  rw [BitVec.toInt_ofInt, BitVec.toInt_sub]
  simp [BitVec.toInt_eq_toNat_bmod]

theorem ofCondition_slt : ofCondition (a.slt b) = if a.toInt < b.toInt then 1#32 else 0#32 := by
  simp [ofCondition, BitVec.slt]

theorem ofCondition_ult : ofCondition (a.ult b) = if a.toNat < b.toNat then 1#32 else 0#32 := by
  simp [ofCondition, BitVec.ult]

theorem toNat_sext16 : (sext16 imm).toNat = (imm.toInt % 2 ^ 32).toNat := by
  rw [← ofInt_toInt_sext16, BitVec.toNat_ofInt]
  rfl

theorem getLsbD_zext16 (k : Nat) : (zext16 imm).getLsbD k = imm.getLsbD k := by
  rw [zext16, BitVec.getLsbD_setWidth]
  by_cases hk : k < 32
  · simp [hk]
  · rw [BitVec.getLsbD_of_ge imm k (by omega), Bool.and_false]

theorem upper16_eq : upper16 imm = BitVec.ofNat 32 (imm.toNat * 2 ^ 16) := by
  apply BitVec.eq_of_toNat_eq
  rw [upper16]
  refine (toNat_append_eq_add imm 0#16).trans ?_
  simp
  omega

theorem shiftLeft_eq_ofNat : a <<< n = BitVec.ofNat 32 (a.toNat * 2 ^ n) := by
  apply BitVec.eq_of_toNat_eq
  simp [Nat.shiftLeft_eq]

theorem ushiftRight_eq_ofNat : a >>> n = BitVec.ofNat 32 (a.toNat / 2 ^ n) := by
  apply BitVec.eq_of_toNat_eq
  have := a.isLt
  have h : a.toNat / 2 ^ n < 2 ^ 32 := lt_of_le_of_lt (Nat.div_le_self ..) a.isLt
  rw [BitVec.toNat_ushiftRight, BitVec.toNat_ofNat, Nat.shiftRight_eq_div_pow, Nat.mod_eq_of_lt h]

theorem sshiftRight_eq_ofInt : a.sshiftRight n = BitVec.ofInt 32 (a.toInt / 2 ^ n) := by
  rw [BitVec.sshiftRight, Int.shiftRight_eq_div_pow]
  rfl

theorem toNat_shiftAmount : (shiftAmount a).toNat = a.toNat % 32 := by
  simp [shiftAmount]

end

/-! ### Products (R181, R182) -/

theorem highHalf_append_lowHalf (p : BitVec 64) : highHalf p ++ lowHalf p = p := by
  exact (BitVec.extractLsb'_append_extractLsb'_eq_extractLsb' (start₁ := 0) (len₁ := 32) rfl).trans
    BitVec.extractLsb'_eq_self

theorem toInt_signedProduct (a b : Word) : (signedProduct a b).toInt = a.toInt * b.toInt := by
  have hlow : -2 ^ 62 ≤ a.toInt * b.toInt := BitVec.le_toInt_mul_toInt
  have hhigh : a.toInt * b.toInt ≤ 2 ^ 62 := BitVec.toInt_mul_toInt_le
  exact BitVec.toInt_ofInt_eq_self (by decide) (by omega) (by omega)

theorem toNat_unsignedProduct (a b : Word) : (unsignedProduct a b).toNat = a.toNat * b.toNat := by
  have h : a.toNat * b.toNat < 2 ^ 32 * 2 ^ 32 := Nat.mul_lt_mul'' a.isLt b.isLt
  rw [unsignedProduct, BitVec.toNat_ofNat]
  exact Nat.mod_eq_of_lt h

/-! ### Quotients and remainders (R183, R184, R186) -/

section
variable (n d : Word)

theorem signedQuotient_zero : signedQuotient n 0#32 = if n.toInt < 0 then 0xFFFFFFFF#32 else 1#32 := by
  rw [signedQuotient, if_pos rfl, BitVec.msb_eq_toInt]
  simp

theorem signedRemainder_zero : signedRemainder n 0#32 = n := if_pos rfl

/-- Outside the two fixed cases the model's quotient is the library's, which truncates toward zero. -/
theorem signedQuotient_eq_sdiv (hd : d ≠ 0#32) (hmin : ¬ (n = 0x80000000#32 ∧ d = 0xFFFFFFFF#32)) :
    signedQuotient n d = n.sdiv d := by
  have h : (n.sdiv d).toInt = n.toInt.tdiv d.toInt :=
    BitVec.toInt_sdiv_of_ne_or_ne n d (not_and_or.1 hmin)
  rw [signedQuotient, if_neg hd, if_neg hmin, ← h, BitVec.ofInt_toInt]

/-- Outside the two fixed cases the model's remainder is the library's, whose sign is the dividend's. -/
theorem signedRemainder_eq_srem (hd : d ≠ 0#32) (hmin : ¬ (n = 0x80000000#32 ∧ d = 0xFFFFFFFF#32)) :
    signedRemainder n d = n.srem d := by
  rw [signedRemainder, if_neg hd, if_neg hmin, Int.mul_comm, ← Int.tmod_def, ← BitVec.toInt_srem, BitVec.ofInt_toInt]

theorem toNat_unsignedQuotient (hd : d ≠ 0#32) : (unsignedQuotient n d).toNat = n.toNat / d.toNat := by
  have h : n.toNat / d.toNat < 2 ^ 32 := lt_of_le_of_lt (Nat.div_le_self ..) n.isLt
  rw [unsignedQuotient, if_neg hd, BitVec.toNat_ofNat, Nat.mod_eq_of_lt h]

theorem toNat_unsignedRemainder (hd : d ≠ 0#32) :
    (unsignedRemainder n d).toNat = n.toNat - n.toNat / d.toNat * d.toNat := by
  have h : n.toNat - n.toNat / d.toNat * d.toNat < 2 ^ 32 := lt_of_le_of_lt (Nat.sub_le ..) n.isLt
  rw [unsignedRemainder, if_neg hd, BitVec.toNat_ofNat, Nat.mod_eq_of_lt h]

end

/-- A remainder is zero or has the sign of the dividend. -/
theorem tmod_eq_zero_or_sign (n d : Int) : n.tmod d = 0 ∨ (n.tmod d < 0 ↔ n < 0) := by
  obtain hn | hn := Int.lt_or_le n 0
  · have h := Int.tmod_nonneg d (a := -n) (by omega)
    rw [Int.neg_tmod] at h
    omega
  · have h := Int.tmod_nonneg d hn
    omega

end Sys2Proof.Machine

namespace Sys2Proof.Claims

open Sys2Proof.Machine

/-- Settles O26: each writes its result to `rd`; the result by its integer or by its bits. -/
theorem registerAluResults : Obligations.RegisterAluResults := by
  intro rd rs rt s
  rw [ofNat_add_toNat, ofInt_toNat_sub, ← ofCondition_slt, ← ofCondition_ult]
  have hw := writesRegister_writeGpr s rd
  exact ⟨⟨_, rfl, hw _⟩, ⟨_, rfl, hw _⟩, ⟨_, _, rfl, hw _, fun _ => BitVec.getLsbD_and⟩,
    ⟨_, _, rfl, hw _, fun _ => BitVec.getLsbD_or⟩, ⟨_, _, rfl, hw _, fun _ => BitVec.getLsbD_xor⟩,
    ⟨_, _, rfl, hw _, fun k hk => by simp [hk]⟩, ⟨_, rfl, hw _⟩, ⟨_, rfl, hw _⟩⟩

/-- Settles O27: as the register forms, with the extended immediate. -/
theorem immediateAluResults : Obligations.ImmediateAluResults := by
  intro rt rs imm s
  rw [← toNat_sext16, ← toInt_sext16, ofInt_toInt_add, ← upper16_eq, ← ofCondition_slt, ← ofCondition_ult]
  have hw := writesRegister_writeGpr s rt
  refine ⟨⟨_, rfl, hw _⟩, ⟨_, rfl, hw _⟩, ⟨_, rfl, hw _⟩, ⟨_, _, rfl, hw _, fun k => ?_⟩,
    ⟨_, _, rfl, hw _, fun k => ?_⟩, ⟨_, _, rfl, hw _, fun k => ?_⟩, ⟨_, rfl, hw _⟩⟩
  · rw [BitVec.getLsbD_and, getLsbD_zext16]
  · rw [BitVec.getLsbD_or, getLsbD_zext16]
  · rw [BitVec.getLsbD_xor, getLsbD_zext16]

/-- Settles O28: the three shifts as arithmetic, the variable amount modulo 32. -/
theorem shiftResults : Obligations.ShiftResults := by
  intro rd rt rs sa s
  simp only [← shiftLeft_eq_ofNat, ← ushiftRight_eq_ofNat, ← sshiftRight_eq_ofInt, ← toNat_shiftAmount]
  have hw := writesRegister_writeGpr s rd
  exact ⟨⟨_, rfl, hw _⟩, ⟨_, rfl, hw _⟩, ⟨_, rfl, hw _⟩, ⟨_, rfl, hw _⟩, ⟨_, rfl, hw _⟩, ⟨_, rfl, hw _⟩⟩

/-- Settles O29: the two halves are the product, which fits. -/
theorem multiplyLeavesTheExactProduct : Obligations.MultiplyLeavesTheExactProduct := by
  intro rs rt s
  refine ⟨⟨_, rfl, writesHiLo_writeHiLo s _ _, ?_⟩, ⟨_, rfl, writesHiLo_writeHiLo s _ _, ?_⟩⟩
  · rw [writeHiLo_hi, writeHiLo_lo, highHalf_append_lowHalf, toInt_signedProduct]
  · rw [writeHiLo_hi, writeHiLo_lo, highHalf_append_lowHalf, toNat_unsignedProduct]

/-- Settles O30: the fixed results by zero. -/
theorem divideByZeroResults : Obligations.DivideByZeroResults := by
  intro rs rt s hd
  refine ⟨_, exec_div s rs rt, ?_⟩
  rw [hd, signedRemainder_zero, signedQuotient_zero]
  exact writesHiLo_writeHiLo s _ _

/-- Settles O32: the quotient and remainder are those of the library's truncated division. -/
theorem divideTruncatesTowardZero : Obligations.DivideTruncatesTowardZero := by
  intro rs rt s hd hmin
  refine ⟨_, exec_div s rs rt, writesHiLo_writeHiLo s _ _, ?_⟩
  have hquotient : (signedQuotient (s.x rs) (s.x rt)).toInt = (s.x rs).toInt.tdiv (s.x rt).toInt := by
    rw [signedQuotient_eq_sdiv _ _ hd hmin, BitVec.toInt_sdiv_of_ne_or_ne _ _ (not_and_or.1 hmin)]
  have hremainder : (signedRemainder (s.x rs) (s.x rt)).toInt = (s.x rs).toInt.tmod (s.x rt).toInt := by
    rw [signedRemainder_eq_srem _ _ hd hmin, BitVec.toInt_srem]
  have hpos : 0 < (s.x rt).toInt.natAbs := Int.natAbs_pos.2 fun h => hd (BitVec.toInt_inj.1 h)
  rw [writeHiLo_hi, writeHiLo_lo, hquotient, hremainder]
  refine ⟨(Int.tdiv_mul_add_tmod _ _).symm, ?_, tmod_eq_zero_or_sign _ _, rfl⟩
  rw [Int.natAbs_tmod]
  exact Nat.mod_lt _ hpos

/-- Settles O33: the floor, what is left of the dividend, and the fixed results by zero. -/
theorem unsignedDivideResults : Obligations.UnsignedDivideResults := by
  intro rs rt s
  refine ⟨_, rfl, writesHiLo_writeHiLo s _ _, fun hd => ⟨if_pos hd, if_pos hd⟩, fun hd => ?_⟩
  have hpos : 0 < (s.x rt).toNat := Nat.pos_of_ne_zero fun h => hd (BitVec.eq_of_toNat_eq h)
  rw [writeHiLo_hi, writeHiLo_lo, toNat_unsignedQuotient _ _ hd, toNat_unsignedRemainder _ _ hd]
  refine ⟨rfl, rfl, ?_⟩
  rw [Nat.mul_comm, ← Nat.mod_eq_sub_mul_div]
  exact Nat.mod_lt _ hpos

/-- Settles O34: the moves to a register write it, the others write one of the two and keep the other. -/
theorem hiLoMoves : Obligations.HiLoMoves :=
  fun r s => ⟨⟨_, rfl, writesRegister_writeGpr s r _⟩, ⟨_, rfl, writesRegister_writeGpr s r _⟩,
    ⟨_, rfl, writesHiLo_writeHiLo s _ _⟩, ⟨_, rfl, writesHiLo_writeHiLo s _ _⟩⟩

end Sys2Proof.Claims
end

section
/-! PROOF. Coprocessor 0 moves, the coprocessor 2 stubs and the mode (spec/47_cop0.md, spec/49_cop2_and_unimplemented.md,
spec/60_exceptions.md R320). -/

namespace Sys2Proof.Machine

section
variable (s : State)

/-! ### MFC0 and MTC0 (R250 to R253) -/

theorem exec_mfc0_number (rt : RegIdx) (r : Cop0Reg) :
    exec (.mfc0 rt r.number) s = .next (s.stageLoad rt (s.readCop0 r)) := by
  cases r <;> rfl

theorem exec_mtc0_number (rt : RegIdx) (r : Cop0Reg) : exec (.mtc0 rt r.number) s = .next (s.writeCop0 r (s.x rt)) := by
  cases r <;> rfl

/-- A number outside R31 names no register. -/
theorem cop0Reg?_eq_none {rd : RegIdx}
    (h : rd ∉ [3#5, 5#5, 6#5, 7#5, 8#5, 9#5, 11#5, 12#5, 13#5, 14#5, 15#5]) : cop0Reg? rd = none := by
  revert rd
  decide

theorem exec_mfc0_of_none {rt rd : RegIdx} (h : cop0Reg? rd = none) : exec (.mfc0 rt rd) s = .next s.pulseDiag := by
  simp only [exec, execMfc0, h]

theorem exec_mtc0_of_none {rt rd : RegIdx} (h : cop0Reg? rd = none) : exec (.mtc0 rt rd) s = .next s.pulseDiag := by
  simp only [exec, execMtc0, h]

/-- A staged value with no bus operation is what the claims say of it. -/
theorem stages_stageLoad (rt : RegIdx) (v : Word) : Claims.Stages rt v [] s (s.stageLoad rt v) where
  staged := rfl
  registers _ := rfl
  memory _ := rfl
  bus := (List.append_nil s.bus).symm
  rest := rfl

/-- A write of `CAUSE` reaches its two software bits (R45, R252). -/
theorem causeWord_writeCop0_cause (v : Word) :
    (s.writeCop0 .cause v).causeWord = (s.causeWord &&& ~~~0x00000300#32) ||| (v &&& 0x00000300#32) := by
  apply BitVec.eq_of_getLsbD_eq
  intro i hi
  rw [BitVec.getLsbD_or, BitVec.getLsbD_and, BitVec.getLsbD_and, getLsbD_causeWord _ hi, getLsbD_causeWord _ hi]
  interval_cases i <;> simp [State.writeCop0]

/-! ### The coprocessor 2 port (R270) -/

theorem presentCop2_onlyOutputs (a v : Option Word) :
    Claims.OnlyOutputs s.diag (some ⟨s.instruction, a, v⟩) s (s.presentCop2 a v) where
  diagPulse := rfl
  cop2Port := rfl
  registers _ := rfl
  memory _ := rfl
  rest := rfl

/-- The effective address as the wrapped sum of the exact values (R220). -/
theorem effAddr_eq_ofInt (base : RegIdx) (offset : Half) :
    s.effAddr base offset = BitVec.ofInt 32 ((s.x base).toInt + offset.toInt) := by
  rw [BitVec.ofInt_add, BitVec.ofInt_toInt, ofInt_toInt_sext16, State.effAddr]

/-! ### The mode (R320) -/

/-- The state with the mode bit `SR.KUc` flipped. -/
def State.flipMode : State := { s with sr := s.sr ^^^ 0x00000002#32 }

/-- The mode is not the bit that chooses the vector. -/
theorem flipMode_bev : s.flipMode.bev = s.bev := by
  simp [State.bev, State.flipMode]

end

/-- The two states differ in `SR` and in the staged load only; in the staged load only if `i` is MFC0 of `SR`. -/
structure DifferInMode (i : Instr) (t t' : State) : Prop where
  rest : t' = { t with sr := t'.sr, pendingLoad := t'.pendingLoad }
  pending : (∀ rt, i ≠ .mfc0 rt 12) → t'.pendingLoad = t.pendingLoad

section
variable (i : Instr) (s : State)

/-- An exception goes to the same vector in both modes. -/
theorem differInMode_enterException (c : ExcCause) (v n bad : Word) :
    DifferInMode i { s.enterException c v n with badVAddr := bad }
      { s.flipMode.enterException c v n with badVAddr := bad } := by
  have h : s.flipMode.enterException c v n = { s.enterException c v n with sr := pushPrivilege s.flipMode.sr } := by
    simp only [State.enterException, flipMode_bev]
    rfl
  rw [h]
  exact ⟨rfl, fun _ => rfl⟩

theorem differInMode_raise (c : ExcCause) : DifferInMode i (s.raise c) (s.flipMode.raise c) :=
  differInMode_enterException i s c s.currentPc s.pc s.badVAddr

theorem differInMode_raiseAddrError (c : ExcCause) (a : Word) :
    DifferInMode i (s.raiseAddrError c a) (s.flipMode.raiseAddrError c a) :=
  differInMode_enterException i s c s.currentPc s.pc a

/-- An access that is stopped or goes on, by the same test in both modes. -/
theorem differInMode_ite (stopped : Bool) {t t' u u' : State} (ht : DifferInMode i t t') (hu : DifferInMode i u u') :
    DifferInMode i (if stopped then t else u) (if stopped then t' else u') := by
  cases stopped
  · exact hu
  · exact ht

theorem differInMode_writeCop0 (r : Cop0Reg) (v : Word) :
    DifferInMode i (s.writeCop0 r v) (s.flipMode.writeCop0 r v) := by
  cases r <;> exact ⟨rfl, fun _ => rfl⟩

theorem differInMode_mfc0 {rt rd : RegIdx} {r : Cop0Reg} (hr : cop0Reg? rd = some r) :
    DifferInMode (.mfc0 rt rd) (s.stageLoad rt (s.readCop0 r)) (s.flipMode.stageLoad rt (s.flipMode.readCop0 r)) := by
  obtain rfl := (cop0Reg?_eq_some_iff rd r).1 hr
  refine ⟨rfl, fun hne => ?_⟩
  cases r
  case sr => exact absurd rfl (hne rt)
  all_goals rfl

end

/-- Every instruction, by its constructor, in the two modes. -/
theorem exec_flipMode (i : Instr) (s : State) :
    ∃ t t', exec i s = .next t ∧ exec i s.flipMode = .next t' ∧ DifferInMode i t t' := by
  cases i
  case add rd rs rt =>
    rw [exec_add, exec_add]
    by_cases h : addOverflows (s.x rs) (s.x rt)
    · exact ⟨_, _, if_pos h, if_pos h, differInMode_raise _ s _⟩
    · exact ⟨_, _, if_neg h, if_neg h, rfl, fun _ => rfl⟩
  case sub rd rs rt =>
    rw [exec_sub, exec_sub]
    by_cases h : subOverflows (s.x rs) (s.x rt)
    · exact ⟨_, _, if_pos h, if_pos h, differInMode_raise _ s _⟩
    · exact ⟨_, _, if_neg h, if_neg h, rfl, fun _ => rfl⟩
  case addi rt rs imm =>
    rw [exec_addi, exec_addi]
    by_cases h : addOverflows (s.x rs) (sext16 imm)
    · exact ⟨_, _, if_pos h, if_pos h, differInMode_raise _ s _⟩
    · exact ⟨_, _, if_neg h, if_neg h, rfl, fun _ => rfl⟩
  case syscall | brk => exact ⟨_, _, rfl, rfl, differInMode_raise _ s _⟩
  case mfc0 rt rd =>
    cases hr : cop0Reg? rd with
    | none => exact ⟨_, _, exec_mfc0_of_none _ hr, exec_mfc0_of_none _ hr, rfl, fun _ => rfl⟩
    | some r =>
      have hexec : ∀ u : State, exec (.mfc0 rt rd) u = .next (u.stageLoad rt (u.readCop0 r)) := fun u =>
        (cop0Reg?_eq_some_iff rd r).1 hr ▸ exec_mfc0_number u rt r
      exact ⟨_, _, hexec s, hexec s.flipMode, differInMode_mfc0 s hr⟩
  case mtc0 rt rd =>
    cases hr : cop0Reg? rd with
    | none => exact ⟨_, _, exec_mtc0_of_none _ hr, exec_mtc0_of_none _ hr, rfl, fun _ => rfl⟩
    | some r =>
      have hexec : ∀ u : State, exec (.mtc0 rt rd) u = .next (u.writeCop0 r (u.x rt)) := fun u =>
        (cop0Reg?_eq_some_iff rd r).1 hr ▸ exec_mtc0_number u rt r
      exact ⟨_, _, hexec s, hexec s.flipMode, differInMode_writeCop0 _ s r _⟩
  case lh | lhu | lw | sh | sw =>
    exact ⟨_, _, rfl, rfl, differInMode_ite _ _ (differInMode_raiseAddrError _ s _ _) ⟨rfl, fun _ => rfl⟩⟩
  all_goals exact ⟨_, _, rfl, rfl, rfl, fun _ => rfl⟩

end Sys2Proof.Machine

namespace Sys2Proof.Claims

open Sys2Proof.Machine

/-- Settles O49: the ten registers by their numbers, and CAUSE field by field. -/
theorem mfc0ReadsEveryRegister : Obligations.Mfc0ReadsEveryRegister := by
  intro rt s
  have hread : ∀ r : Cop0Reg, ∃ t, exec (.mfc0 rt r.number) s = .next t ∧ Stages rt (s.readCop0 r) [] s t ∧
      t.freeCount = s.freeCount := fun r => ⟨_, exec_mfc0_number s rt r, stages_stageLoad s rt _, rfl⟩
  refine ⟨?_, _, s.causeWord, exec_mfc0_number s rt .cause, stages_stageLoad s rt _, rfl, causeWord_fields s⟩
  simp only [List.forall_mem_cons, List.not_mem_nil, false_imp_iff, implies_true, and_true]
  exact ⟨hread .bpc, hread .bda, hread .jumpDest, hread .dcic, hread .badVAddr, hread .bdam, hread .bpcm, hread .sr,
    hread .epc, hread .prid⟩

/-- Settles O50: one write for each register that has one. -/
theorem mtc0FollowsTheAccessPolicy : Obligations.Mtc0FollowsTheAccessPolicy := by
  intro rt s
  have hwrite := exec_mtc0_number s rt
  refine ⟨hwrite .bpc, hwrite .bda, hwrite .dcic, hwrite .bdam, hwrite .bpcm, hwrite .sr,
    ⟨_, hwrite .cause, rfl, causeWord_writeCop0_cause s _⟩, ?_⟩
  simp only [List.forall_mem_cons, List.not_mem_nil, false_imp_iff, implies_true, and_true]
  exact ⟨hwrite .jumpDest, hwrite .badVAddr, hwrite .epc, hwrite .prid⟩

/-- Settles O51: such a number is the diagnostic no-op of both moves. -/
theorem cop0NumbersThatNameNoRegister : Obligations.Cop0NumbersThatNameNoRegister := by
  intro rt rd i s hrd hi
  have hnone := cop0Reg?_eq_none hrd
  obtain rfl | rfl := hi
  · exact ⟨_, exec_mfc0_of_none s hnone, pulseDiag_onlyOutputs s⟩
  · exact ⟨_, exec_mtc0_of_none s hnone, pulseDiag_onlyOutputs s⟩

/-- Settles O54: the vector of an exception does not depend on the mode, and only MFC0 of SR reads it. -/
theorem modeRestrictsNothing : Obligations.ModeRestrictsNothing := by
  intro i s t h
  obtain ⟨u, t', hu, ht', hdiffer⟩ := exec_flipMode i s
  cases hu.symm.trans h
  exact ⟨t', ht', hdiffer.rest, hdiffer.pending⟩

/-- Settles O55: each stub is one presentation on the port. -/
theorem cop2StubsDriveThePortOnly : Obligations.Cop2StubsDriveThePortOnly := by
  intro rt rd base offset command s
  rw [← effAddr_eq_ofInt]
  have hport := presentCop2_onlyOutputs s
  exact ⟨⟨_, rfl, hport none none⟩, ⟨_, rfl, hport none none⟩, ⟨_, rfl, hport none (some (s.x rt))⟩,
    ⟨_, rfl, hport none (some (s.x rt))⟩, ⟨_, rfl, hport none none⟩, ⟨_, exec_lwc2 rt offset base s, hport _ none⟩,
    ⟨_, exec_swc2 rt offset base s, hport _ none⟩⟩

end Sys2Proof.Claims
end

section
/-! PROOF. Loads and stores in the byte picture (spec/45_load_store.md, spec/46_unaligned.md R240 to R245): the bytes of a
merged word, what a load stages and what a store leaves in storage. -/

namespace Sys2Proof.Machine

open Claims (byteOf ofBytes)

/-! ### Bytes of words (R65, R241) -/

section
variable (b3 b2 b1 b0 : Byte)

theorem getLsbD_byteOf (w : Word) (j : Nat) {i : Nat} (hi : i < 8) : (byteOf w j).getLsbD i = w.getLsbD (8 * j + i) := by
  rw [byteOf_eq_byteOfWord, byteOfWord, BitVec.getLsbD_extractLsb', decide_eq_true hi, Bool.true_and]

theorem byteOf_ofBytes :
    byteOf (ofBytes b3 b2 b1 b0) 0 = b0 ∧ byteOf (ofBytes b3 b2 b1 b0) 1 = b1 ∧ byteOf (ofBytes b3 b2 b1 b0) 2 = b2 ∧
    byteOf (ofBytes b3 b2 b1 b0) 3 = b3 := by
  simp (disch := decide) only [ofBytes_eq_wordOfBytes, byteOf_eq_byteOfWord, byteOfWord, wordOfBytes,
    BitVec.extractLsb'_append_eq_of_le, BitVec.extractLsb'_append_eq_of_add_le, Nat.reduceSub, Nat.reduceMul,
    BitVec.extractLsb'_eq_self, and_self]

theorem zext8_eq_ofBytes : zext8 b0 = ofBytes 0 0 0 b0 := by
  apply BitVec.eq_of_toNat_eq
  simp [zext8, ofBytes]

theorem zext8_eq_ofNat : zext8 b0 = BitVec.ofNat 32 b0.toNat := (BitVec.ofNat_toNat 32 b0).symm

theorem zext16_append_eq_ofBytes : zext16 (b1 ++ b0) = ofBytes 0 0 b1 b0 := by
  have h : (b1 ++ b0 : Half).toNat = b1.toNat * 2 ^ 8 + b0.toNat := toNat_append_eq_add b1 b0
  have := b1.isLt
  apply BitVec.eq_of_toNat_eq
  rw [zext16, BitVec.toNat_setWidth, h]
  simp [ofBytes]

theorem sext16_append_eq_ofInt : sext16 (b1 ++ b0) = BitVec.ofInt 32 (b1.toInt * 256 + b0.toNat) := by
  have h : (b1 ++ b0 : Half).toInt = b1.toInt * 256 + b0.toNat :=
    BitVec.toInt_append.trans (by rw [if_neg (by decide), Int.mul_comm]; rfl)
  rw [← ofInt_toInt_sext16, h]

end

/-! ### The four merges, byte by byte (R242 to R245) -/

section
variable (k : BitVec 2) (x y : Word) {mask : Word} {c j : Nat}

/-- The low `c` bytes of `x` are kept, the bytes of `y` come in above them. -/
theorem byteOf_keepLow (hmask : ∀ n < 32, mask.getLsbD n = decide (n < 8 * c)) (hj : j < 4) :
    byteOf ((x &&& mask) ||| (y <<< (8 * c))) j = if j < c then byteOf x j else byteOf y (j - c) := by
  apply BitVec.eq_of_getLsbD_eq
  intro i hi
  rw [apply_ite (BitVec.getLsbD · i), getLsbD_byteOf _ _ hi, getLsbD_byteOf _ _ hi, getLsbD_byteOf _ _ hi,
    BitVec.getLsbD_or, BitVec.getLsbD_and, BitVec.getLsbD_shiftLeft, hmask _ (by omega)]
  by_cases h : j < c
  · simp [h, show 8 * j + i < 8 * c by omega]
  · simp [h, show ¬ 8 * j + i < 8 * c by omega, show 8 * j + i < 32 by omega,
      show 8 * j + i - 8 * c = 8 * (j - c) + i by omega]

/-- The high `c` bytes of `x` are kept, the bytes of `y` come in below them. -/
theorem byteOf_keepHigh (hmask : ∀ n < 32, mask.getLsbD n = decide (8 * (4 - c) ≤ n)) (hj : j < 4) :
    byteOf ((x &&& mask) ||| (y >>> (8 * c))) j = if j < 4 - c then byteOf y (j + c) else byteOf x j := by
  apply BitVec.eq_of_getLsbD_eq
  intro i hi
  rw [apply_ite (BitVec.getLsbD · i), getLsbD_byteOf _ _ hi, getLsbD_byteOf _ _ hi, getLsbD_byteOf _ _ hi,
    BitVec.getLsbD_or, BitVec.getLsbD_and, BitVec.getLsbD_ushiftRight, hmask _ (by omega)]
  by_cases h : j < 4 - c
  · simp [h, show ¬ 8 * (4 - c) ≤ 8 * j + i by omega, show 8 * c + (8 * j + i) = 8 * (j + c) + i by omega]
  · rw [BitVec.getLsbD_of_ge y _ (by omega)]
    simp [h, show 8 * (4 - c) ≤ 8 * j + i by omega]

/-- LWL: the low bytes of memory come to the high end of the register. -/
theorem byteOf_mergeLwl (m r : Word) (hj : j < 4) :
    byteOf (mergeLwl k m r) j = if j < 3 - k.toNat then byteOf r j else byteOf m (j - (3 - k.toNat)) := by
  match k with
  | 0#2 => exact byteOf_keepLow r m (c := 3) (by decide) hj
  | 1#2 => exact byteOf_keepLow r m (c := 2) (by decide) hj
  | 2#2 => exact byteOf_keepLow r m (c := 1) (by decide) hj
  | 3#2 => exact (if_neg (Nat.not_lt_zero j)).symm

/-- LWR: the high bytes of memory come to the low end of the register. -/
theorem byteOf_mergeLwr (m r : Word) (hj : j < 4) :
    byteOf (mergeLwr k m r) j = if j < 4 - k.toNat then byteOf m (j + k.toNat) else byteOf r j := by
  match k with
  | 0#2 => exact (if_pos hj).symm
  | 1#2 => exact byteOf_keepHigh r m (c := 1) (by decide) hj
  | 2#2 => exact byteOf_keepHigh r m (c := 2) (by decide) hj
  | 3#2 => exact byteOf_keepHigh r m (c := 3) (by decide) hj

/-- SWL: the high bytes of the register go to the low end of memory. -/
theorem byteOf_mergeSwl (m r : Word) (hj : j < 4) :
    byteOf (mergeSwl k m r) j = if j < k.toNat + 1 then byteOf r (j + (3 - k.toNat)) else byteOf m j := by
  match k with
  | 0#2 => exact byteOf_keepHigh m r (c := 3) (by decide) hj
  | 1#2 => exact byteOf_keepHigh m r (c := 2) (by decide) hj
  | 2#2 => exact byteOf_keepHigh m r (c := 1) (by decide) hj
  | 3#2 => exact (if_pos hj).symm

/-- SWR: the low bytes of the register go to the high end of memory. -/
theorem byteOf_mergeSwr (m r : Word) (hj : j < 4) :
    byteOf (mergeSwr k m r) j = if j < k.toNat then byteOf m j else byteOf r (j - k.toNat) := by
  match k with
  | 0#2 => exact (if_neg (Nat.not_lt_zero j)).symm
  | 1#2 => exact byteOf_keepLow m r (c := 1) (by decide) hj
  | 2#2 => exact byteOf_keepLow m r (c := 2) (by decide) hj
  | 3#2 => exact byteOf_keepLow m r (c := 3) (by decide) hj

end

/-! ### The four merges in the picture of R241, alignment by alignment -/

section
variable (k : BitVec 2) (m3 m2 m1 m0 : Byte) (r : Word)

/-- The word with given bytes. -/
theorem eq_ofBytes {v : Word} {b3 b2 b1 b0 : Byte} (h3 : byteOf v 3 = b3) (h2 : byteOf v 2 = b2) (h1 : byteOf v 1 = b1)
    (h0 : byteOf v 0 = b0) : v = ofBytes b3 b2 b1 b0 := by
  rw [← h3, ← h2, ← h1, ← h0, ofBytes_byteOf]

theorem mergeLwl_ofBytes :
    let v := mergeLwl k (ofBytes m3 m2 m1 m0) r
    (k.toNat = 0 → v = ofBytes m0 (byteOf r 2) (byteOf r 1) (byteOf r 0)) ∧
    (k.toNat = 1 → v = ofBytes m1 m0 (byteOf r 1) (byteOf r 0)) ∧
    (k.toNat = 2 → v = ofBytes m2 m1 m0 (byteOf r 0)) ∧ (k.toNat = 3 → v = ofBytes m3 m2 m1 m0) := by
  obtain ⟨h0, h1, h2, h3⟩ := byteOf_ofBytes m3 m2 m1 m0
  have hv := fun j hj => byteOf_mergeLwl k (j := j) (ofBytes m3 m2 m1 m0) r hj
  refine ⟨fun hk => ?_, fun hk => ?_, fun hk => ?_, fun hk => ?_⟩ <;> rw [hk] at hv <;>
    apply eq_ofBytes <;> simp [hv, h0, h1, h2, h3]

theorem mergeLwr_ofBytes :
    let v := mergeLwr k (ofBytes m3 m2 m1 m0) r
    (k.toNat = 0 → v = ofBytes m3 m2 m1 m0) ∧ (k.toNat = 1 → v = ofBytes (byteOf r 3) m3 m2 m1) ∧
    (k.toNat = 2 → v = ofBytes (byteOf r 3) (byteOf r 2) m3 m2) ∧
    (k.toNat = 3 → v = ofBytes (byteOf r 3) (byteOf r 2) (byteOf r 1) m3) := by
  obtain ⟨h0, h1, h2, h3⟩ := byteOf_ofBytes m3 m2 m1 m0
  have hv := fun j hj => byteOf_mergeLwr k (j := j) (ofBytes m3 m2 m1 m0) r hj
  refine ⟨fun hk => ?_, fun hk => ?_, fun hk => ?_, fun hk => ?_⟩ <;> rw [hk] at hv <;>
    apply eq_ofBytes <;> simp [hv, h0, h1, h2, h3]

theorem mergeSwl_ofBytes :
    let v := mergeSwl k (ofBytes m3 m2 m1 m0) r
    let bytes := [byteOf v 3, byteOf v 2, byteOf v 1, byteOf v 0]
    (k.toNat = 0 → bytes = [m3, m2, m1, byteOf r 3]) ∧ (k.toNat = 1 → bytes = [m3, m2, byteOf r 3, byteOf r 2]) ∧
    (k.toNat = 2 → bytes = [m3, byteOf r 3, byteOf r 2, byteOf r 1]) ∧
    (k.toNat = 3 → bytes = [byteOf r 3, byteOf r 2, byteOf r 1, byteOf r 0]) := by
  obtain ⟨-, h1, h2, h3⟩ := byteOf_ofBytes m3 m2 m1 m0
  have hv := fun j hj => byteOf_mergeSwl k (j := j) (ofBytes m3 m2 m1 m0) r hj
  refine ⟨fun hk => ?_, fun hk => ?_, fun hk => ?_, fun hk => ?_⟩ <;> rw [hk] at hv <;> simp [hv, h1, h2, h3]

theorem mergeSwr_ofBytes :
    let v := mergeSwr k (ofBytes m3 m2 m1 m0) r
    let bytes := [byteOf v 3, byteOf v 2, byteOf v 1, byteOf v 0]
    (k.toNat = 0 → bytes = [byteOf r 3, byteOf r 2, byteOf r 1, byteOf r 0]) ∧
    (k.toNat = 1 → bytes = [byteOf r 2, byteOf r 1, byteOf r 0, m0]) ∧
    (k.toNat = 2 → bytes = [byteOf r 1, byteOf r 0, m1, m0]) ∧ (k.toNat = 3 → bytes = [byteOf r 0, m2, m1, m0]) := by
  obtain ⟨h0, h1, h2, -⟩ := byteOf_ofBytes m3 m2 m1 m0
  have hv := fun j hj => byteOf_mergeSwr k (j := j) (ofBytes m3 m2 m1 m0) r hj
  refine ⟨fun hk => ?_, fun hk => ?_, fun hk => ?_, fun hk => ?_⟩ <;> rw [hk] at hv <;> simp [hv, h0, h1, h2]

end

/-! ### The word an unaligned access uses (R240) -/

theorem toNat_byteInWord (a : Word) : (byteInWord a).toNat = a.toNat % 4 := by
  simp [byteInWord]

theorem wordAligned_eq (a : Word) : wordAligned a = BitVec.ofNat 32 (a.toNat - a.toNat % 4) := by
  have hshift : wordAligned a = (a >>> 2) <<< 2 := by
    apply BitVec.eq_of_getLsbD_eq
    intro i hi
    simp only [wordAligned, BitVec.getLsbD_and, BitVec.getLsbD_shiftLeft, BitVec.getLsbD_ushiftRight]
    interval_cases i <;> simp
  apply BitVec.eq_of_toNat_eq
  rw [hshift, BitVec.toNat_shiftLeft, BitVec.toNat_ushiftRight, BitVec.toNat_ofNat, Nat.shiftRight_eq_div_pow,
    Nat.shiftLeft_eq]
  omega

/-- An address is its word and its place in the word. -/
theorem wordAligned_add_byteInWord (a : Word) : wordAligned a + BitVec.ofNat 32 (byteInWord a).toNat = a := by
  rw [wordAligned_eq, toNat_byteInWord]
  bv_omega

/-! ### What loads stage (R221, R240) -/

section
variable (s : State)

/-- A bus read returns the stored byte. -/
theorem answers_busByte (a : Word) : Claims.Answers s a (s.busByte a) := fun _ h => busByte_stored s h

/-- The word of a bus read, in the byte picture. -/
theorem wordAt_eq_ofBytes (a : Word) :
    s.wordAt a =
      ofBytes (s.busByte (a + 3#32)) (s.busByte (a + 2#32)) (s.busByte (a + 1#32)) (s.busByte a) := by
  rw [ofBytes_eq_wordOfBytes, State.wordAt]

theorem byteOf_wordAt (a : Word) {j : Nat} (hj : j < 4) : byteOf (s.wordAt a) j = s.busByte (a + BitVec.ofNat 32 j) := by
  obtain ⟨h0, h1, h2, h3⟩ := byteOf_ofBytes (s.busByte (a + 3#32)) (s.busByte (a + 2#32)) (s.busByte (a + 1#32))
    (s.busByte a)
  rw [wordAt_eq_ofBytes]
  obtain rfl | rfl | rfl | rfl : j = 0 ∨ j = 1 ∨ j = 2 ∨ j = 3 := by omega
  · rw [h0, BitVec.add_zero]
  · exact h1
  · exact h2
  · exact h3

/-- A value staged after one bus read is what the claims say of it. -/
theorem stages_afterRead (width : BusWidth) (a d : Word) (rt : RegIdx) (v : Word) :
    Claims.Stages rt v [⟨.read, width, a, d⟩] s ((s.afterRead width a d).stageLoad rt v) where
  staged := rfl
  registers _ := rfl
  memory _ := rfl
  bus := rfl
  rest := rfl

theorem stages_loadHalf (ext : Half → Word) (rt : RegIdx) {a : Word} (ha : a.toNat % 2 = 0) :
    Claims.Stages rt (ext (s.busByte (a + 1#32) ++ s.busByte a))
      [⟨.read, .half, a, ofBytes 0 0 (s.busByte (a + 1#32)) (s.busByte a)⟩] s (s.loadHalf ext rt a) := by
  rw [loadHalf_of_even s ext rt ha, ← zext16_append_eq_ofBytes]
  exact stages_afterRead s ..

theorem stages_loadWord (rt : RegIdx) {a : Word} (ha : a.toNat % 4 = 0) :
    Claims.Stages rt (s.wordAt a) [⟨.read, .word, a, s.wordAt a⟩] s (s.loadWord rt a) := by
  rw [loadWord_of_aligned s rt ha]
  exact stages_afterRead s ..

theorem stages_loadMerged (merge : BitVec 2 → Word → Word → Word) (rt : RegIdx) (a : Word) :
    Claims.Stages rt (merge (byteInWord a) (s.wordAt (wordAligned a)) (s.xpost rt))
      [⟨.read, .word, wordAligned a, s.wordAt (wordAligned a)⟩] s (s.loadMerged merge rt a) :=
  stages_afterRead s ..

/-! ### No register is written in the step of a load or store (R221, R222) -/

theorem loadHalf_gpr (ext : Half → Word) (rt : RegIdx) (a : Word) : (s.loadHalf ext rt a).gpr = s.gpr := by
  obtain ⟨-, h⟩ | ⟨-, h⟩ := loadHalf_cases s ext rt a <;> rw [h] <;> rfl

theorem loadWord_gpr (rt : RegIdx) (a : Word) : (s.loadWord rt a).gpr = s.gpr := by
  obtain ⟨-, h⟩ | ⟨-, h⟩ := loadWord_cases s rt a <;> rw [h] <;> rfl

theorem storeHalf_gpr (a v : Word) : (s.storeHalf a v).gpr = s.gpr := by
  obtain ⟨-, h⟩ | ⟨-, h⟩ := storeHalf_cases s a v <;> rw [h] <;> rfl

theorem storeWord_gpr (a v : Word) : (s.storeWord a v).gpr = s.gpr := by
  obtain ⟨-, h⟩ | ⟨-, h⟩ := storeWord_cases s a v <;> rw [h] <;> rfl

end

/-! ### What stores leave (R222, R240) -/

section
variable {s : State} {w : Word}

/-- A byte of a word put behind an aligned address, where its own address has storage. -/
theorem read?_putWord_of_storageAt (v : Word) (hw : w.toNat % 4 = 0) {j : Nat} (hj : j < 4) {p : Word}
    (hp : s.storageAt (w + BitVec.ofNat 32 j) = some p) : (s.putWord w v).read? p.toNat = some (byteOf v j) := by
  rw [storageAt_add s (by omega), Option.map_eq_some_iff] at hp
  obtain ⟨p0, hp0, rfl⟩ := hp
  rw [byteOf_eq_byteOfWord]
  exact read?_putWord_byte s v hw hp0 hj

theorem read?_putWord_of_notBehind (v : Word) {q : Nat} (h : Claims.NotBehind w 4 s q) :
    (s.putWord w v).read? q = s.mem.read? q := by
  have h0 := h 0 (by decide)
  rw [BitVec.add_zero] at h0
  rw [read?_putWord, if_neg (h 3 (by decide)), if_neg (h 2 (by decide)), if_neg (h 1 (by decide)), if_neg h0]

theorem exec_sb_byteOf (rt : RegIdx) (o : Half) (base : RegIdx) (s : State) :
    exec (.sb rt o base) s = .next (s.write8 (s.effAddr base o) (byteOf (s.x rt) 0)) := by
  rw [byteOf_eq_byteOfWord]
  rfl

theorem stores_write8 (s : State) (a : Word) (b : Byte) :
    Claims.Stores a [b] [⟨.write, .byte, a, ofBytes 0 0 0 b⟩] s (s.write8 a b) where
  stored j b' hb p hp := by
    obtain ⟨rfl, rfl⟩ : j = 0 ∧ b = b' := by simpa [List.getElem?_singleton, and_comm] using hb
    rw [BitVec.add_zero] at hp
    rw [read?_write8, hp, Option.map_some, if_pos rfl]
  outside q hq := by
    have h0 := hq 0 (by simp)
    rw [BitVec.add_zero] at h0
    rw [read?_write8, if_neg h0]
  registers _ := rfl
  bus := by rw [write8_bus, zext8_eq_ofBytes]
  rest := rfl

/-- The two bytes of the low half of a word. -/
theorem extractLsb'_lowHalf (v : Word) :
    (v.extractLsb' 0 16).extractLsb' 0 8 = byteOf v 0 ∧ (v.extractLsb' 0 16).extractLsb' 8 8 = byteOf v 1 := by
  simp only [byteOf_eq_byteOfWord, byteOfWord]
  constructor <;> ext i hi <;> simp

theorem stores_storeHalf (s : State) {a : Word} (v : Word) (ha : a.toNat % 2 = 0) :
    Claims.Stores a [byteOf v 0, byteOf v 1] [⟨.write, .half, a, ofBytes 0 0 (byteOf v 1) (byteOf v 0)⟩] s
      (s.storeHalf a v) := by
  obtain ⟨hv0, hv1⟩ := extractLsb'_lowHalf v
  have hbus : zext16 (v.extractLsb' 0 16) = ofBytes 0 0 (byteOf v 1) (byteOf v 0) := by
    rw [← zext16_append_eq_ofBytes, ← hv0, ← hv1]
    exact congrArg zext16 (BitVec.extractLsb'_append_extractLsb' (w := 8) (len := 8)).symm
  have hread := read?_putHalf s a (v.extractLsb' 0 16)
  rw [hv0, hv1] at hread
  have hadd := storageAt_add s (a := a) (k := 1) (by omega)
  rw [storeHalf_of_even s v ha]
  exact {
    stored := fun j b hb p hp => by
      refine (hread _).trans ?_
      match j, hb with
      | 0, rfl =>
        rw [BitVec.add_zero] at hp
        rw [hadd, hp, Option.map_some, Option.map_some, if_neg (by simp; bv_omega), Option.map_some, if_pos rfl]
      | 1, rfl => rw [hp, Option.map_some, if_pos rfl]
    outside := fun q hq => by
      have h0 := hq 0 (by simp)
      rw [BitVec.add_zero] at h0
      exact (hread q).trans (by rw [if_neg (hq 1 (by simp)), if_neg h0])
    registers := fun _ => rfl
    bus := hbus ▸ rfl
    rest := rfl }

/-- A state whose memory has a word put behind an aligned address is what the claims say of a store of its bytes. -/
theorem stores_of_putWord {t : State} {v : Word} {ops : List BusOp} (hw : w.toNat % 4 = 0)
    (hmem : t.mem = s.putWord w v) (hbus : t.bus = s.bus ++ ops)
    (hrest : t = { s with mem := t.mem, bus := t.bus, freeCount := t.freeCount }) :
    Claims.Stores w [byteOf v 0, byteOf v 1, byteOf v 2, byteOf v 3] ops s t := by
  refine ⟨fun j b hb p hp => ?_, fun q hq => by rw [hmem, read?_putWord_of_notBehind v hq],
    fun q => by rw [hrest]; rfl, hbus, hrest⟩
  rw [hmem]
  match j, hb with
  | 0, rfl => exact read?_putWord_of_storageAt v hw (by decide) hp
  | 1, rfl => exact read?_putWord_of_storageAt v hw (by decide) hp
  | 2, rfl => exact read?_putWord_of_storageAt v hw (by decide) hp
  | 3, rfl => exact read?_putWord_of_storageAt v hw (by decide) hp

theorem stores_storeWord (s : State) {a : Word} (v : Word) (ha : a.toNat % 4 = 0) :
    Claims.Stores a [byteOf v 0, byteOf v 1, byteOf v 2, byteOf v 3] [⟨.write, .word, a, v⟩] s (s.storeWord a v) := by
  rw [storeWord_of_aligned s v ha]
  exact stores_of_putWord ha rfl rfl rfl

/-- The word an unaligned store leaves: its bytes in storage, one read and one write of the whole word. -/
theorem stores_storeMerged (s : State) (merge : BitVec 2 → Word → Word → Word) (rt : RegIdx) (a : Word) :
    let v := merge (byteInWord a) (s.wordAt (wordAligned a)) (s.x rt)
    Claims.Stores (wordAligned a) [byteOf v 0, byteOf v 1, byteOf v 2, byteOf v 3]
      [⟨.read, .word, wordAligned a, s.wordAt (wordAligned a)⟩,
        ⟨.write, .word, wordAligned a, ofBytes (byteOf v 3) (byteOf v 2) (byteOf v 1) (byteOf v 0)⟩] s
      (s.storeMerged merge rt a) := by
  intro v
  rw [ofBytes_byteOf v]
  exact stores_of_putWord (wordAligned_mod a) rfl (storeMerged_bus s rt a merge) rfl

end

end Sys2Proof.Machine

namespace Sys2Proof.Claims

open Sys2Proof.Machine

/-- Settles O39: the value is put together from the bytes the bus answers. -/
theorem alignedLoadsStageTheirValue : Obligations.AlignedLoadsStageTheirValue := by
  intro rt base offset s
  have ans := answers_busByte s
  refine ⟨⟨_, _, exec_lb .., ans _, stages_afterRead ..⟩, ⟨_, _, exec_lbu .., ans _, ?_⟩,
    fun ha => ⟨⟨_, _, _, exec_lh .., ans _, ans _, ?_⟩, _, _, _, exec_lhu .., ans _, ans _, ?_⟩,
    fun ha => ⟨_, _, _, _, _, exec_lw .., ans _, ans _, ans _, ans _, ?_⟩⟩
  · rw [← zext8_eq_ofNat]
    exact stages_afterRead ..
  · rw [← sext16_append_eq_ofInt]
    exact stages_loadHalf s sext16 rt ha
  · exact zext16_append_eq_ofBytes .. ▸ stages_loadHalf s zext16 rt ha
  · rw [← wordAt_eq_ofBytes]
    exact stages_loadWord s rt ha

/-- Settles O40: each store puts the bytes of its width behind its address. -/
theorem alignedStoresWriteTheirBytes : Obligations.AlignedStoresWriteTheirBytes := fun _ _ _ s =>
  ⟨⟨_, exec_sb_byteOf .., stores_write8 ..⟩,
    fun ha => ⟨_, exec_sh .., stores_storeHalf s _ ha⟩, fun ha => ⟨_, exec_sw .., stores_storeWord s _ ha⟩⟩

/-- Settles O42: the bytes of the merged word, alignment by alignment. -/
theorem unalignedLoadsMergeBytes : Obligations.UnalignedLoadsMergeBytes := by
  intro rt base offset s a w r
  have hw : wordAligned a = w := wordAligned_eq a
  have hword := wordAt_eq_ofBytes s w
  have ans := answers_busByte s
  have stages := fun merge => stages_loadMerged s merge rt a
  rw [hw, hword] at stages
  rw [← toNat_byteInWord a]
  exact ⟨⟨_, _, _, _, _, _, exec_lwl .., ans _, ans _, ans _, ans _, stages mergeLwl, mergeLwl_ofBytes ..⟩,
    _, _, _, _, _, _, exec_lwr .., ans _, ans _, ans _, ans _, stages mergeLwr, mergeLwr_ofBytes ..⟩

/-- Settles O43: the bytes of the word written back, alignment by alignment. -/
theorem unalignedStoresMergeBytes : Obligations.UnalignedStoresMergeBytes := by
  intro rt base offset s a w r
  have hw : wordAligned a = w := wordAligned_eq a
  have hword := wordAt_eq_ofBytes s w
  have ans := answers_busByte s
  have stores := fun merge => stores_storeMerged s merge rt a
  rw [hw, hword] at stores
  rw [← toNat_byteInWord a]
  exact ⟨⟨_, _, _, _, _, _, _, _, _, exec_swl .., ans _, ans _, ans _, ans _, stores mergeSwl, mergeSwl_ofBytes ..⟩,
    _, _, _, _, _, _, _, _, _, exec_swr .., ans _, ans _, ans _, ans _, stores mergeSwr, mergeSwr_ofBytes ..⟩

/-- Settles O38: the bus operation of each shared operation, and that none of the fourteen writes a register. -/
theorem effectiveAddressIsBasePlusOffset : Obligations.EffectiveAddressIsBasePlusOffset := by
  intro rt base offset s
  rw [← effAddr_eq_ofInt]
  simp only [List.forall_mem_cons, List.not_mem_nil, false_implies, implies_true, and_true]
  exact ⟨trivial,
    ⟨⟨_, _, _, exec_lb .., loadByte_bus s rt _ sext8⟩, ⟨_, _, _, exec_lbu .., loadByte_bus s rt _ zext8⟩,
      _, _, _, exec_sb .., write8_bus ..⟩,
    fun h => ⟨⟨_, _, _, exec_lh .., loadHalf_bus s rt _ sext16 h⟩, ⟨_, _, _, exec_lhu .., loadHalf_bus s rt _ zext16 h⟩,
      _, _, _, exec_sh .., storeHalf_bus s _ _ h⟩,
    fun h => ⟨⟨_, _, _, exec_lw .., loadWord_bus s rt _ h⟩, _, _, _, exec_sw .., storeWord_bus s _ _ h⟩,
    ⟨⟨_, _, [], exec_lwl .., loadMerged_bus s rt _ mergeLwl, nofun⟩,
      ⟨_, _, [], exec_lwr .., loadMerged_bus s rt _ mergeLwr, nofun⟩,
      ⟨_, _, [_], exec_swl .., storeMerged_bus s rt _ mergeSwl, by simp⟩,
      _, _, [_], exec_swr .., storeMerged_bus s rt _ mergeSwr, by simp⟩,
    ⟨⟨_, exec_lwc2 .., rfl, rfl⟩, _, exec_swc2 .., rfl, rfl⟩,
    ⟨_, exec_lb .., rfl⟩, ⟨_, exec_lbu .., rfl⟩, ⟨_, exec_lh .., loadHalf_gpr ..⟩, ⟨_, exec_lhu .., loadHalf_gpr ..⟩,
    ⟨_, exec_lw .., loadWord_gpr ..⟩, ⟨_, exec_lwl .., rfl⟩, ⟨_, exec_lwr .., rfl⟩, ⟨_, exec_sb .., rfl⟩,
    ⟨_, exec_sh .., storeHalf_gpr ..⟩, ⟨_, exec_sw .., storeWord_gpr ..⟩, ⟨_, exec_swl .., rfl⟩,
    ⟨_, exec_swr .., rfl⟩, ⟨_, exec_lwc2 .., rfl⟩, _, exec_swc2 .., rfl⟩

end Sys2Proof.Claims
end

section
/-! PROOF. Storage behind several addresses (spec/20_memory.md R62, R65, R76) and the pairs of unaligned accesses
(spec/46_unaligned.md R241, R246). -/

namespace Sys2Proof.Machine

open Claims (byteOf ofBytes Stores NotBehind)

/-! ### Storage of a word and of its bytes (log 3) -/

section
variable (s : State)

theorem storageAt_wordAligned (a : Word) :
    s.storageAt a = (s.storageAt (wordAligned a)).map (· + BitVec.ofNat 32 (a.toNat % 4)) := by
  have hw := wordAligned_mod a
  rw [← storageAt_add s (by omega), ← toNat_byteInWord, wordAligned_add_byteInWord]

end

section
variable {s t : State} {a b c p : Word} {j k : Nat}

/-- Two addresses with one storage, one in the word at `c`: they stand at the same place of words with one storage. -/
theorem storageAt_word_eq (hc : c.toNat % 4 = 0) (hk : k < 4) (hcp : s.storageAt (c + BitVec.ofNat 32 k) = some p)
    (hap : s.storageAt a = some p) :
    a.toNat % 4 = k ∧ s.storageAt (wordAligned a) = s.storageAt c := by
  have hak : a.toNat % 4 = k := by
    rw [← storageAt_mod s hap, storageAt_mod s hcp]
    bv_omega
  rw [storageAt_add s (by omega), Option.map_eq_some_iff] at hcp
  rw [storageAt_wordAligned, hak, Option.map_eq_some_iff] at hap
  obtain ⟨q, hq, rfl⟩ := hcp
  obtain ⟨q', hq', h⟩ := hap
  rw [hq, hq', (BitVec.add_left_inj _).1 h]
  exact ⟨hak, rfl⟩

/-! ### Bytes read back through any view (R62) -/

section
variable {bytes : List Byte} {ops : List BusOp} (h : Stores a bytes ops s t)
include h

theorem busMap_of_stores : t.busMap = s.busMap := by rw [h.rest]

theorem byteAt?_of_stores {x : Byte} (hx : bytes[j]? = some x) (ha : s.storageAt (a + BitVec.ofNat 32 j) = some p)
    (hb : s.storageAt b = some p) : t.byteAt? b = some x := by
  rw [State.byteAt?, storageAt_congr (busMap_of_stores h), hb]
  exact h.stored j x hx p ha

theorem byteAt?_of_stores_outside (hb : s.storageAt b = some p) (hp : NotBehind a bytes.length s p.toNat) :
    t.byteAt? b = s.byteAt? b := by
  rw [State.byteAt?, State.byteAt?, storageAt_congr (busMap_of_stores h), hb]
  exact h.outside _ hp

/-- The bytes of the word at `c` after a store to an address with the storage of its byte `k`. -/
theorem byteAt?_word_of_stores (hc : c.toNat % 4 = 0) (hk : k + bytes.length ≤ 4) (hk' : k < 4)
    (hcp : s.storageAt (c + BitVec.ofNat 32 k) = some p) (hap : s.storageAt a = some p) (hj : j < 4) :
    t.byteAt? (c + BitVec.ofNat 32 j) =
      if k ≤ j ∧ j < k + bytes.length then bytes[j - k]? else s.byteAt? (c + BitVec.ofNat 32 j) := by
  obtain ⟨hak, -⟩ := storageAt_word_eq hc hk' hcp hap
  rw [storageAt_add s (by omega), Option.map_eq_some_iff] at hcp
  obtain ⟨q, hq, rfl⟩ := hcp
  have hcj : s.storageAt (c + BitVec.ofNat 32 j) = some (q + BitVec.ofNat 32 j) := by
    rw [storageAt_add s (by omega), hq, Option.map_some]
  have hai : ∀ i, k + i < 4 → s.storageAt (a + BitVec.ofNat 32 i) = some (q + BitVec.ofNat 32 k + BitVec.ofNat 32 i) :=
    fun i hi => by rw [storageAt_add s (by omega), hap, Option.map_some]
  split
  · next hin =>
    rw [List.getElem?_eq_getElem (by omega)]
    refine byteAt?_of_stores h (List.getElem?_eq_getElem (by omega)) ?_ hcj
    rw [hai _ (by omega)]
    congr 1
    bv_omega
  · next hout =>
    refine byteAt?_of_stores_outside h hcj fun i hi => ?_
    rw [hai i (by omega), Option.map_some, ne_eq, Option.some.injEq]
    bv_omega

end

/-- The four bytes of a word as a list. -/
theorem getElem?_bytes (v : Word) (hj : j < 4) :
    [byteOf v 0, byteOf v 1, byteOf v 2, byteOf v 3][j]? = some (byteOf v j) := by
  obtain rfl | rfl | rfl | rfl : j = 0 ∨ j = 1 ∨ j = 2 ∨ j = 3 := by omega
  all_goals rfl

/-- The bytes of the word at `c` after an unaligned store to an address with the storage of its byte `k`. -/
theorem byteAt?_word_of_storeMerged (merge : BitVec 2 → Word → Word → Word) (rt : RegIdx) (hc : c.toNat % 4 = 0)
    (hw : s.storageAt (wordAligned a) = s.storageAt c) (hp : s.storageAt c = some p) (hj : j < 4) :
    (s.storeMerged merge rt a).byteAt? (c + BitVec.ofNat 32 j) =
      some (byteOf (merge (byteInWord a) (s.wordAt (wordAligned a)) (s.x rt)) j) := by
  have h := byteAt?_word_of_stores (stores_storeMerged s merge rt a) (k := 0) hc (by simp) (by decide)
    (by rw [BitVec.add_zero, hp]) (hw.trans hp) hj
  rw [h, if_pos (by simpa using hj)]
  exact getElem?_bytes _ hj

/-- A stored byte of the word at `c` is the byte an unaligned access reads of the word with its storage. -/
theorem byteOf_wordAt_of_stored (hc : c.toNat % 4 = 0) (hw : s.storageAt (wordAligned a) = s.storageAt c) (hj : j < 4)
    {x : Byte} (hx : s.byteAt? (c + BitVec.ofNat 32 j) = some x) : byteOf (s.wordAt (wordAligned a)) j = x := by
  have hwa := wordAligned_mod a
  rw [byteOf_wordAt s _ hj]
  apply busByte_stored
  rw [← hx]
  apply byteAt?_of_storageAt
  rw [storageAt_add s (by omega), storageAt_add s (by omega), hw]

/-! ### The next fetch (R76) -/

/-- Bytes stored behind `pc` are in the word the next step fetches. -/
theorem nextFetchHas_of_stored {bytes : Nat → Option Byte} (hpc : t.pc.toNat % 4 = 0)
    (h : ∀ j < 4, ∀ x, bytes j = some x → t.byteAt? (t.pc + BitVec.ofNat 32 j) = some x) : Claims.NextFetchHas bytes t := by
  intro hirq
  obtain ⟨u, hu, he⟩ := exec_effect (decodeWord t.fetched.instruction) t.fetched
  refine ⟨u, (step_of_fetches hirq hpc).trans hu, fun j hj x hx => ?_⟩
  rw [he.instruction_eq]
  exact (byteOf_wordAt t.beginStep t.pc hj).trans (busByte_stored t.beginStep (h j hj x hx))

section
variable {fetched : Nat → Option Byte} (hpc : s.pc.toNat % 4 = 0) (hk : k < 4)
  (hcp : s.storageAt (s.pc + BitVec.ofNat 32 k) = some p) (hap : s.storageAt a = some p)
include hpc hk hcp hap

theorem nextFetchHas_of_stores {bytes : List Byte} {ops : List BusOp} (h : Stores a bytes ops s t)
    (hlen : k + bytes.length ≤ 4)
    (hf : ∀ j < 4, fetched j =
      if k ≤ j ∧ j < k + bytes.length then bytes[j - k]? else s.byteAt? (s.pc + BitVec.ofNat 32 j)) :
    Claims.NextFetchHas fetched t := by
  have ht : t.pc = s.pc := by rw [h.rest]
  refine nextFetchHas_of_stored (ht ▸ hpc) fun j hj x hx => ?_
  rw [ht, byteAt?_word_of_stores h hpc hlen hk hcp hap hj, ← hf j hj, hx]

/-- After an unaligned store: the bytes of the register where `sel` says so, the stored bytes elsewhere. -/
theorem nextFetchHas_of_storeMerged {merge : BitVec 2 → Word → Word → Word} {rt : RegIdx} {sel : Nat → Prop}
    [DecidablePred sel] {f : Nat → Nat}
    (hmerge : ∀ m j, j < 4 → byteOf (merge (byteInWord a) m (s.x rt)) j =
      if sel j then byteOf (s.x rt) (f j) else byteOf m j) :
    Claims.NextFetchHas
      (fun j => if sel j then some (byteOf (s.x rt) (f j)) else s.byteAt? (s.pc + BitVec.ofNat 32 j))
      (s.storeMerged merge rt a) := by
  obtain ⟨-, hw⟩ := storageAt_word_eq hpc hk hcp hap
  rw [storageAt_add s (by omega), Option.map_eq_some_iff] at hcp
  obtain ⟨q, hq, -⟩ := hcp
  refine nextFetchHas_of_stored hpc fun j hj x hx => ?_
  refine (byteAt?_word_of_storeMerged merge rt hpc hw hq hj).trans ?_
  rw [hmerge _ j hj, ← hx]
  split
  · rfl
  · next hsel =>
    rw [if_neg hsel] at hx
    rw [byteOf_wordAt_of_stored hpc hw hj hx, hx]

end

/-! ### The unaligned pairs (R241, R246) -/

/-- LWR at `a` and LWL at `a + 3` put together the word `v` at `a` from the words `m1` and `m2` of the two addresses. -/
theorem mergeLwl_mergeLwr {m1 m2 a v : Word} (r : Word)
    (h1 : ∀ j < 4, ∀ i < 4, wordAligned a + BitVec.ofNat 32 i = a + BitVec.ofNat 32 j → byteOf m1 i = byteOf v j)
    (h2 : ∀ j < 4, ∀ i < 4, wordAligned (a + 3#32) + BitVec.ofNat 32 i = a + BitVec.ofNat 32 j →
      byteOf m2 i = byteOf v j) :
    mergeLwl (byteInWord (a + 3#32)) m2 (mergeLwr (byteInWord a) m1 r) = v := by
  have hbyte : ∀ j < 4, byteOf (mergeLwl (byteInWord (a + 3#32)) m2 (mergeLwr (byteInWord a) m1 r)) j = byteOf v j := by
    intro j hj
    rw [byteOf_mergeLwl _ _ _ hj, byteOf_mergeLwr _ _ _ hj, toNat_byteInWord, toNat_byteInWord]
    have ha3 : (a + 3#32).toNat % 4 = (a.toNat + 3) % 4 := by bv_omega
    split
    · rw [if_pos (by omega)]
      refine h1 j hj _ (by omega) ?_
      rw [wordAligned_eq]
      bv_omega
    · refine h2 j hj _ (by omega) ?_
      rw [wordAligned_eq]
      bv_omega
  exact (eq_ofBytes (hbyte 3 (by decide)) (hbyte 2 (by decide)) (hbyte 1 (by decide)) (hbyte 0 (by decide))).trans
    (ofBytes_byteOf v)

/-- The bytes of a word that is stored behind the word at `b`, as the bus answers them. -/
theorem byteOf_wordAt_eq {v : Word} (hstored : ∀ j < 4, s.byteAt? (a + BitVec.ofNat 32 j) = some (byteOf v j)) (j : Nat)
    (hj : j < 4) (i : Nat) (hi : i < 4) (hij : b + BitVec.ofNat 32 i = a + BitVec.ofNat 32 j) :
    byteOf (s.wordAt b) i = byteOf v j := by
  rw [byteOf_wordAt s b hi, hij]
  exact busByte_stored s (hstored j hj)

/-- The store from `s` to `t` puts byte `j` of `r` behind `a + j` where `sel j`, and loses no other stored byte. -/
structure PutsBytes (sel : Nat → Prop) (a r : Word) (s t : State) : Prop where
  puts : ∀ j < 4, sel j → ∀ p, s.storageAt (a + BitVec.ofNat 32 j) = some p → t.mem.read? p.toNat = some (byteOf r j)
  keeps : ∀ q x, s.mem.read? q = some x →
    (∀ j < 4, sel j → (s.storageAt (a + BitVec.ofNat 32 j)).map BitVec.toNat ≠ some q) → t.mem.read? q = some x

/-- An unaligned store, from what its merge makes of each byte of the word. -/
theorem putsBytes_storeMerged {sel : Nat → Prop} {merge : BitVec 2 → Word → Word → Word} {rt : RegIdx} {a b : Word}
    (s : State) (hput : ∀ m j, j < 4 → sel j → ∃ i < 4, wordAligned b + BitVec.ofNat 32 i = a + BitVec.ofNat 32 j ∧
      byteOf (merge (byteInWord b) m (s.x rt)) i = byteOf (s.x rt) j)
    (hkeep : ∀ m i, i < 4 → byteOf (merge (byteInWord b) m (s.x rt)) i = byteOf m i ∨
      ∃ j < 4, sel j ∧ wordAligned b + BitVec.ofNat 32 i = a + BitVec.ofNat 32 j) :
    PutsBytes sel a (s.x rt) s (s.storeMerged merge rt b) := by
  have hw := wordAligned_mod b
  have hmem : (s.storeMerged merge rt b).mem = s.putWord (wordAligned b) _ := rfl
  refine ⟨fun j hj hsel p hp => ?_, fun q x hx hq => ?_⟩
  · obtain ⟨i, hi, hij, hv⟩ := hput (s.wordAt (wordAligned b)) j hj hsel
    rw [← hij] at hp
    rw [hmem, read?_putWord_of_storageAt _ hw hi hp, hv]
  · by_cases hbehind : NotBehind (wordAligned b) 4 s q
    · rw [hmem, read?_putWord_of_notBehind _ hbehind, hx]
    · simp only [NotBehind, not_forall, not_not] at hbehind
      obtain ⟨i, hi, hqi⟩ := hbehind
      obtain hv | ⟨j, hj, hsel, hij⟩ := hkeep (s.wordAt (wordAligned b)) i hi
      · obtain ⟨p, hp, rfl⟩ := Option.map_eq_some_iff.1 hqi
        rw [hmem, read?_putWord_of_storageAt _ hw hi hp, hv, byteOf_wordAt s _ hi, busByte_stored s (b := x)]
        rw [State.byteAt?, hp]
        exact hx
      · exact absurd (hij ▸ hqi) (hq j hj hsel)

/-- SWR at `a` stores the low bytes of the register, up to the end of the word of `a`. -/
theorem putsBytes_swr (s : State) (rt : RegIdx) (a : Word) :
    PutsBytes (fun j => j + a.toNat % 4 < 4) a (s.x rt) s (s.storeMerged mergeSwr rt a) := by
  refine putsBytes_storeMerged s (fun m j hj hsel => ⟨j + a.toNat % 4, hsel, ?_, ?_⟩) (fun m i hi => ?_)
  · rw [wordAligned_eq]
    bv_omega
  · rw [byteOf_mergeSwr _ _ _ hsel, toNat_byteInWord, if_neg (by omega), Nat.add_sub_cancel]
  · rw [byteOf_mergeSwr _ _ _ hi, toNat_byteInWord, wordAligned_eq]
    by_cases h : i < a.toNat % 4
    · exact .inl (if_pos h)
    · exact .inr ⟨i - a.toNat % 4, by omega, by omega, by bv_omega⟩

/-- SWL at `a + 3` stores the high bytes of the register, from the start of the word of `a + 3`. -/
theorem putsBytes_swl (s : State) (rt : RegIdx) (a : Word) :
    PutsBytes (fun j => 3 ≤ j + (a.toNat + 3) % 4) a (s.x rt) s (s.storeMerged mergeSwl rt (a + 3#32)) := by
  have ha3 : (a + 3#32).toNat % 4 = (a.toNat + 3) % 4 := by bv_omega
  refine putsBytes_storeMerged s (fun m j hj hsel => ⟨j + (a.toNat + 3) % 4 - 3, by omega, ?_, ?_⟩) (fun m i hi => ?_)
  · rw [wordAligned_eq]
    bv_omega
  · rw [byteOf_mergeSwl _ _ _ (by omega), toNat_byteInWord, ha3, if_pos (by omega)]
    congr 1
    omega
  · rw [byteOf_mergeSwl _ _ _ hi, toNat_byteInWord, ha3, wordAligned_eq]
    by_cases h : i < (a.toNat + 3) % 4 + 1
    · exact .inr ⟨i + 3 - (a.toNat + 3) % 4, by omega, by omega, by bv_omega⟩
    · exact .inl (if_neg h)

/-! ### Addresses without storage (U6) -/

/-- A store that leaves the memory changes the bus record only. -/
theorem changesBusOnly_of_stores {bytes : List Byte} {ops : List BusOp} (h : Stores a bytes ops s t) (hmem : t.mem = s.mem) :
    t = { s with bus := t.bus, freeCount := t.freeCount } :=
  h.rest.trans (by rw [hmem])

section
variable (h : s.storageAt a = none)
include h

theorem storageAt_wordAligned_none : s.storageAt (wordAligned a) = none := by
  rw [storageAt_wordAligned, Option.map_eq_none_iff] at h
  exact h

theorem write8_mem_of_no_storage (b : Byte) : (s.write8 a b).mem = s.mem := by
  rw [State.write8, h]
  rfl

theorem storeHalf_mem_of_no_storage (ha : a.toNat % 2 = 0) (v : Word) : (s.storeHalf a v).mem = s.mem := by
  have h1 := storageAt_add s (a := a) (k := 1) (by omega)
  rw [storeHalf_of_even s v ha, State.write16, State.putHalf, h1, h]
  rfl

theorem putWord_of_no_storage (v : Word) (ha : a.toNat % 4 = 0) : s.putWord a v = s.mem := by
  have h1 := storageAt_add s (a := a) (k := 1) (by omega)
  have h2 := storageAt_add s (a := a) (k := 2) (by omega)
  have h3 := storageAt_add s (a := a) (k := 3) (by omega)
  rw [State.putWord, h1, h2, h3, h]
  rfl

theorem storeWord_mem_of_no_storage (ha : a.toNat % 4 = 0) (v : Word) : (s.storeWord a v).mem = s.mem := by
  rw [storeWord_of_aligned s v ha]
  exact putWord_of_no_storage h v ha

end

end

end Sys2Proof.Machine

namespace Sys2Proof.Claims

open Sys2Proof.Machine

/-- Settles O48: each store puts its bytes into the word at `pc` from the byte with its storage on. -/
theorem storeIsSeenByTheNextFetch : Obligations.StoreIsSeenByTheNextFetch := by
  intro rt base offset s k p hpc hk hcp hap old r
  obtain ⟨hmod, -⟩ := storageAt_word_eq hpc hk hcp hap
  have hbyte : (byteInWord (s.effAddr base offset)).toNat = k := (toNat_byteInWord _).trans hmod
  refine ⟨⟨_, exec_sb_byteOf .., ?_⟩, fun h2 => ⟨_, exec_sh .., ?_⟩, fun h0 => ⟨_, exec_sw .., ?_⟩, ⟨_, exec_swl .., ?_⟩,
    _, exec_swr .., ?_⟩
  · refine nextFetchHas_of_stores hpc hk hcp hap (stores_write8 ..) (by simp; omega) fun j hj => ?_
    by_cases hjk : j = k
    · subst hjk
      simp [r]
    · rw [if_neg hjk, if_neg (by simp; omega)]
  · refine nextFetchHas_of_stores hpc hk hcp hap (stores_storeHalf s _ (by omega)) (by simp; omega) fun j hj => ?_
    by_cases hjk : j = k ∨ j = k + 1
    · obtain rfl | rfl := hjk <;> simp [r]
    · rw [if_neg hjk, if_neg (by simp; omega)]
  · refine nextFetchHas_of_stores hpc hk hcp hap (stores_storeWord s _ (by omega)) (by simp; omega) fun j hj => ?_
    subst h0
    rw [if_pos (by simpa using hj)]
    exact (getElem?_bytes r hj).symm
  · refine nextFetchHas_of_storeMerged hpc hk hcp hap fun m j hj => ?_
    rw [byteOf_mergeSwl _ _ _ hj, hbyte, Nat.add_comm j]
    exact if_congr Nat.lt_succ_iff rfl rfl
  · refine nextFetchHas_of_storeMerged hpc hk hcp hap fun m j hj => ?_
    rw [byteOf_mergeSwr _ _ _ hj, hbyte, ← ite_not]
    exact if_congr Nat.not_lt rfl rfl

/-- Settles O44: LWL merges with the value LWR staged, which the commit has put into the register. -/
theorem lwrThenLwlLoadsTheUnalignedWord : Obligations.LwrThenLwlLoadsTheUnalignedWord := by
  intro rt base o1 o2 s b3 b2 b1 b0 hbase hrt heff h0 h1 h2 h3
  obtain ⟨e0, e1, e2, e3⟩ := byteOf_ofBytes b3 b2 b1 b0
  have hstored : ∀ j < 4, s.byteAt? (s.effAddr base o1 + BitVec.ofNat 32 j) = some (byteOf (ofBytes b3 b2 b1 b0) j) := by
    intro j hj
    obtain rfl | rfl | rfl | rfl : j = 0 ∨ j = 1 ∨ j = 2 ∨ j = 3 := by omega
    · rw [BitVec.add_zero, h0, e0]
    · rw [h1, e1]
    · rw [h2, e2]
    · rw [h3, e3]
  generalize ht : s.loadMerged mergeLwr rt (s.effAddr base o1) = t
  have hbase' : t.phase2.x base = s.x base := by
    subst ht
    exact hbase.symm
  have heff' : t.phase2.effAddr base o2 = s.effAddr base o1 + 3#32 := (congrArg (· + sext16 o2) hbase').trans heff
  have hrt' : t.phase2.xpost rt = mergeLwr (byteInWord (s.effAddr base o1))
      (s.wordAt (wordAligned (s.effAddr base o1))) (s.xpost rt) := by
    subst ht
    exact (xpost_phase2 _ rt).trans (if_pos ⟨rfl, hrt⟩)
  have hstored' : ∀ j < 4, t.phase2.byteAt? (s.effAddr base o1 + BitVec.ofNat 32 j) =
      some (byteOf (ofBytes b3 b2 b1 b0) j) := by
    subst ht
    exact hstored
  refine ⟨t, _, ht ▸ exec_lwr .., exec_lwl .., t.phase2.xpost rt, ?_⟩
  rw [heff', (stages_loadMerged t.phase2 mergeLwl rt _).staged, hrt',
    mergeLwl_mergeLwr _ (byteOf_wordAt_eq hstored) (byteOf_wordAt_eq hstored')]

/-- Settles O45: SWR stores the bytes in the word of the address, SWL those in the word of the address plus 3. -/
theorem swrThenSwlStoresTheUnalignedWord : Obligations.SwrThenSwlStoresTheUnalignedWord := by
  intro rt base o1 o2 s heff
  obtain ⟨hputs1, hkeeps1⟩ := putsBytes_swr s rt (s.effAddr base o1)
  obtain ⟨hputs2, hkeeps2⟩ := putsBytes_swl (s.storeMerged mergeSwr rt (s.effAddr base o1)) rt (s.effAddr base o1)
  rw [← heff] at hputs2 hkeeps2
  refine ⟨_, _, exec_swr .., exec_swl .., fun j hj p hp => ?_, fun q x hx hq => ?_⟩
  · by_cases hsel : 3 ≤ j + ((s.effAddr base o1).toNat + 3) % 4
    · exact hputs2 j hj hsel p hp
    · refine hkeeps2 _ _ (hputs1 j hj (by omega) p hp) fun i hi hsel' hip => ?_
      obtain ⟨p', hp', hpp⟩ := Option.map_eq_some_iff.1 hip
      have hi4 := storageAt_mod s hp'
      have hj4 := storageAt_mod s hp
      bv_omega
  · exact hkeeps2 _ _ (hkeeps1 q x hx fun j hj _ => hq j hj) fun j hj _ => hq j hj

/-- Settles O58: the bytes of the word are read back where they were put. -/
theorem viewsOfOneStorageAreOneMemory : Obligations.ViewsOfOneStorageAreOneMemory := by
  intro rt base rd base2 offset offset2 s k p hk ha hp hp2 r
  have hmod : (s.effAddr base2 offset2).toNat % 4 = k := by
    have := storageAt_mod s hp
    rw [← storageAt_mod s hp2]
    bv_omega
  have hbyte : ∀ i, k + i < 4 →
      (s.write32 (s.effAddr base offset) r).busByte (s.effAddr base2 offset2 + BitVec.ofNat 32 i) = byteOf r (k + i) := by
    intro i hi
    have hpi : s.storageAt (s.effAddr base offset + BitVec.ofNat 32 (k + i)) =
        some (p + BitVec.ofNat 32 k + BitVec.ofNat 32 i) := by
      rw [storageAt_add s (by omega), hp, Option.map_some, BitVec.ofNat_add, BitVec.add_assoc]
    have hstores := stores_storeWord s r ha
    rw [storeWord_of_aligned s r ha] at hstores
    refine busByte_stored _ (byteAt?_of_stores hstores (getElem?_bytes r hi) hpi ?_)
    rw [storageAt_add s (by omega), hp2, Option.map_some]
  have h0 := hbyte 0 hk
  rw [BitVec.add_zero, Nat.add_zero] at h0
  refine ⟨_, (exec_sw ..).trans (congrArg _ (storeWord_of_aligned s r ha)), ⟨_, exec_lbu .., ?_⟩,
    fun h2 => ⟨_, exec_lhu .., ?_⟩, fun h4 => ⟨_, exec_lw .., ?_⟩⟩
  · refine (stages_afterRead ..).staged.trans ?_
    rw [zext8_eq_ofBytes, ← h0]
    rfl
  · refine (stages_loadHalf _ _ _ (a := s.effAddr base2 offset2) (by omega)).staged.trans ?_
    rw [h0, hbyte 1 (by omega), zext16_append_eq_ofBytes]
    rfl
  · refine (stages_loadWord _ _ (a := s.effAddr base2 offset2) (by omega)).staged.trans ?_
    subst h4
    rw [wordAt_eq_ofBytes, hbyte 3 (by omega), hbyte 2 (by omega), hbyte 1 (by omega), h0, ofBytes_byteOf]
    rfl

/-- Settles O59: without storage behind an address there is none behind its word. -/
theorem accessesWithoutStorageCompleteAndStoreNothing : Obligations.AccessesWithoutStorageCompleteAndStoreNothing := by
  refine ⟨fun rt base offset s h => ?_, fun s t hst => step_busMap hst⟩
  have hmerged := fun merge => changesBusOnly_of_stores (stores_storeMerged s merge rt (s.effAddr base offset))
    (putWord_of_no_storage (storageAt_wordAligned_none h) _ (wordAligned_mod _))
  simp only [List.forall_mem_cons, List.not_mem_nil, false_implies, implies_true, and_true]
  exact ⟨⟨⟨_, exec_sb_byteOf .., changesBusOnly_of_stores (stores_write8 ..) (write8_mem_of_no_storage h _)⟩,
      ⟨_, exec_swl .., hmerged _⟩, _, exec_swr .., hmerged _⟩,
    fun ha => ⟨_, exec_sh .., changesBusOnly_of_stores (stores_storeHalf s _ ha) (storeHalf_mem_of_no_storage h ha _)⟩,
    fun ha => ⟨_, exec_sw .., changesBusOnly_of_stores (stores_storeWord s _ ha) (storeWord_mem_of_no_storage h ha _)⟩,
    ⟨⟨_, _, _, exec_lb .., stages_afterRead ..⟩, ⟨_, _, _, exec_lbu .., stages_afterRead ..⟩,
      ⟨_, _, _, exec_lwl .., stages_loadMerged ..⟩, _, _, _, exec_lwr .., stages_loadMerged ..⟩,
    fun ha => ⟨⟨_, _, _, exec_lh .., stages_loadHalf s _ _ ha⟩, _, _, _, exec_lhu .., stages_loadHalf s _ _ ha⟩,
    fun ha => ⟨_, _, _, exec_lw .., stages_loadWord s _ ha⟩⟩

end Sys2Proof.Claims
end
